-- ==== Sys2Proof/Word.lean ====
section
/-! DEFINITION. The word types of the block's ports and of the sensor's messages (00_scope R10, R12;
30_encoding R46, R55). Every value is unsigned (R10). -/

namespace Sys2Proof

/-- A byte on the wire, and the width of the CRC register (00_scope R5, R12). -/
abbrev Byte := BitVec 8

/-- A 16-bit word carried by a triple (00_scope R15). -/
abbrev Word16 := BitVec 16

/-- The 72-bit `data` field of a request and `payload` field of a response (30_encoding R46, R55). -/
abbrev Field72 := BitVec 72

/-- A request word (30_encoding R46). -/
abbrev Request := BitVec 80

end Sys2Proof
end

