-- ==== Sys2Proof/Machine/Operands.lean ====
section
/-! DEFINITION. The bytes of a word (00_scope R11), the fields of a request and the operand forms of its `data` (30_encoding
R46, R49), and the layout of byte sequences in the 72-bit fields (20_memory R41). -/

namespace Sys2Proof.Machine

/-- `hi(w) = w[15:8]` (00_scope R11). -/
def hi (w : Word16) : Byte := w.extractLsb' 8 8

/-- `lo(w) = w[7:0]` (00_scope R11). -/
def lo (w : Word16) : Byte := w.extractLsb' 0 8

/-- `word(hi, lo) = {hi, lo}`, big-endian (00_scope R11, 20_memory R37). -/
def word (h l : Byte) : Word16 := h ++ l

/-- `op = req[79:76]` (30_encoding R46). -/
def opField (w : Request) : BitVec 4 := w.extractLsb' 76 4

/-- `sel = req[75:72]` (30_encoding R46). -/
def selField (w : Request) : BitVec 4 := w.extractLsb' 72 4

/-- `data = req[71:0]` (30_encoding R46). -/
def dataField (w : Request) : Field72 := w.extractLsb' 0 72

/-- A request from its three fields (30_encoding R46). -/
def mkRequest (op sel : BitVec 4) (data : Field72) : Request := (op ++ sel) ++ data

/-- Byte `i` of a left-aligned sequence, `F[71-8i : 64-8i]`, for i < 9 (20_memory R41). -/
def byteAt (F : Field72) (i : Nat) : Byte := F.extractLsb' (64 - 8 * i) 8

/-- The first `n` bytes of a left-aligned sequence, n ≤ 9 (20_memory R41). -/
def takeBytes (n : Nat) (F : Field72) : List Byte := (List.range n).map (byteAt F)

/-- A byte sequence left-aligned in a field, zero below it (20_memory R41). A field holds nine bytes; bytes after the
ninth have no place. -/
def packLeft : List Byte → Field72
  | [] => 0#72
  | b :: bs => (b.setWidth 72 <<< 64) ||| (packLeft bs >>> 8)

/-- A byte operand, `data[7:0]` (30_encoding R49). -/
def dataByte (F : Field72) : Byte := F.extractLsb' 0 8

/-- A bit operand, `data[0]` (30_encoding R49). -/
def dataBit (F : Field72) : BitVec 1 := F.extractLsb' 0 1

/-- A word operand, `data[15:0]` (30_encoding R49). -/
def dataWord (F : Field72) : Word16 := F.extractLsb' 0 16

/-- The `co2` operand of SET_IAQ_BASELINE, `data[31:16]` (30_encoding R49). -/
def dataHighWord (F : Field72) : Word16 := F.extractLsb' 16 16

end Sys2Proof.Machine
end

