-- ==== Sys2Proof/Config.lean ====
section
/-! DEFINITION. What one implementation of the block fixes (00_scope R6, R7), the names of the six sensor commands
(30_encoding R52), and the free values: constants without a body, so that no proof can use what they are. -/

namespace Sys2Proof

/-- `CRC_IMPL` (00_scope R6): it changes how many cycles a CRC.BYTE takes, and no value. -/
inductive CrcImpl where
  | parallel
  | serial
deriving DecidableEq, Repr

/-- The build parameters of one block (00_scope R6, R7). They are fixed for the machine; `State` carries them so that
every statement about all states is a statement about all builds (log 3). -/
structure Build where
  /-- `CRC_IMPL`, OPEN (00_scope R6). -/
  crcImpl : CrcImpl
  /-- `DEV_ADDR`, a 7-bit bus address (00_scope R7). -/
  devAddr : BitVec 7
deriving DecidableEq, Repr

/-- The six command names of the ROM (30_encoding R52). -/
inductive Selector where
  | iaqInit
  | measureIaq
  | getIaqBaseline
  | setIaqBaseline
  | getSerialId
  | getFeatureset
deriving DecidableEq, Repr

namespace Config

/-- `DEV_ADDR`'s default, 0x58 (00_scope R7). -/
def defaultDevAddr : BitVec 7 := 0x58#7

/-- The build `State.reset` stands for: the default address (00_scope R7) and, DESIGN CHOICE, the parallel CRC (log 3). -/
def defaultBuild : Build := { crcImpl := .parallel, devAddr := defaultDevAddr }

/-- FREE VALUE: `crc` at power-up, before any reset edge (70_reset_and_hazards R113; 93 I1; log 7). -/
opaque powerUpCrc : Byte

/-- FREE VALUE: what `crc_out` shows while a SERIAL CRC.BYTE is in progress, applied to the state's counter of such
cycles (10_state R32; 93 I2; log 6). -/
opaque crcOutMidByte : Nat → Byte

end Config

end Sys2Proof
end

