-- ==== Sys2Proof/Machine/Rom.lean ====
section
/-! DEFINITION. The constants of the block: the CRC parameters (00_scope R5), the expected feature-set word (R8) and the
command ROM (30_encoding R52). None is programmable (10_state R25). -/

namespace Sys2Proof.Machine

/-- `CRC_POLY`, x^8 + x^5 + x^4 + 1 with the top term implicit (00_scope R5). -/
def crcPoly : Byte := 0x31#8

/-- `CRC_INIT` (00_scope R5). -/
def crcInit : Byte := 0xFF#8

/-- `FEATURESET_EXPECTED` (00_scope R8). -/
def featuresetExpected : Word16 := 0x0020#16

/-- The selector number of a command name (30_encoding R52). -/
def selIndex : Selector → BitVec 4
  | .iaqInit => 0#4
  | .measureIaq => 1#4
  | .getIaqBaseline => 2#4
  | .setIaqBaseline => 3#4
  | .getSerialId => 4#4
  | .getFeatureset => 5#4

/-- One row of the command ROM (30_encoding R52). -/
structure RomRow where
  /-- The sensor opcode K. -/
  opcode : Word16
  /-- Payload words P. -/
  payloadWords : Nat
  /-- Reply words N. -/
  replyWords : Nat
  /-- Minimum settle delay in milliseconds. -/
  delayMs : Nat
deriving DecidableEq, Repr

/-- The command ROM (30_encoding R52). -/
def rom : Selector → RomRow
  | .iaqInit        => { opcode := 0x2003#16, payloadWords := 0, replyWords := 0, delayMs := 10 }
  | .measureIaq     => { opcode := 0x2008#16, payloadWords := 0, replyWords := 2, delayMs := 50 }
  | .getIaqBaseline => { opcode := 0x2015#16, payloadWords := 0, replyWords := 2, delayMs := 10 }
  | .setIaqBaseline => { opcode := 0x201E#16, payloadWords := 2, replyWords := 0, delayMs := 10 }
  | .getSerialId    => { opcode := 0x3682#16, payloadWords := 0, replyWords := 3, delayMs := 10 }
  | .getFeatureset  => { opcode := 0x202F#16, payloadWords := 0, replyWords := 1, delayMs := 10 }

end Sys2Proof.Machine
end

