-- ==== Sys2Proof/Syntax.lean ====
section
/-! DEFINITION. The instructions: one constructor per row of spec/opcode_table.json. Rows of format REQ80 are the
block's requests (30_encoding R46 to R50), the reserved spaces among them (R56, R57); rows of format SENSOR_CMD16 are
the sensor's wire opcodes (R52), which are not block requests. -/

namespace Sys2Proof

/-- One instruction, with the operands 30_encoding R49 gives it. A reply frame is the byte sequence `[r0, r1, …]`. -/
inductive Instr where
  -- no operation and CRCG (40_crc)
  | nop
  | crcInit
  | crcByte (b : Byte)
  | crcBit (d : BitVec 1)
  -- FRM, single words (41_framer R79, R80)
  | frEncw (w : Word16)
  | frDecw (t0 t1 t2 : Byte)
  -- FRM, command frames (41_framer R81)
  | frEncIaqInit
  | frEncMeasureIaq
  | frEncGetIaqBaseline
  | frEncSetIaqBaseline (co2 tvoc : Word16)
  | frEncGetSerialId
  | frEncGetFeatureset
  -- FRM, reply frames (41_framer R84, R85)
  | frDecIaqInit
  | frDecMeasureIaq (r : List Byte)
  | frDecGetIaqBaseline (r : List Byte)
  | frDecSetIaqBaseline
  | frDecGetSerialId (r : List Byte)
  | frDecGetFeatureset (r : List Byte)
  -- FRM, the identity check (41_framer R86)
  | frChkfs (w : Word16)
  -- reserved ops (30_encoding R56)
  | reservedOp9
  | reservedOpA
  | reservedOpB
  | reservedOpC
  | reservedOpD
  | reservedOpE
  | reservedOpF
  -- reserved selectors of FR.ENC (30_encoding R57)
  | reservedEncSel6
  | reservedEncSel7
  | reservedEncSel8
  | reservedEncSel9
  | reservedEncSel10
  | reservedEncSel11
  | reservedEncSel12
  | reservedEncSel13
  | reservedEncSel14
  | reservedEncSel15
  -- reserved selectors of FR.DEC (30_encoding R57)
  | reservedDecSel6
  | reservedDecSel7
  | reservedDecSel8
  | reservedDecSel9
  | reservedDecSel10
  | reservedDecSel11
  | reservedDecSel12
  | reservedDecSel13
  | reservedDecSel14
  | reservedDecSel15
  -- the sensor's wire opcodes (30_encoding R52)
  | sensorIaqInit
  | sensorMeasureIaq
  | sensorGetIaqBaseline
  | sensorSetIaqBaseline
  | sensorGetSerialId
  | sensorGetFeatureset
deriving DecidableEq, Repr

end Sys2Proof
end

