-- ==== Sys2Proof/WellFormed.lean ====
section
/-! DEFINITION. Which instructions a request or a wire word can hold, and which source lines assemble (30_encoding
R49, R59, R60). The widths of scalar operands are in the types; what is left to check is the number of reply bytes. -/

namespace Sys2Proof

/-- A reply operand holds exactly the 3N bytes of its selector (30_encoding R49, R52, R59); every other operand fits
by its type. -/
def Instr.wellFormed : Instr → Bool
  | .nop => true
  | .crcInit => true
  | .crcByte _ => true
  | .crcBit _ => true
  | .frEncw _ => true
  | .frDecw _ _ _ => true
  | .frEncIaqInit => true
  | .frEncMeasureIaq => true
  | .frEncGetIaqBaseline => true
  | .frEncSetIaqBaseline _ _ => true
  | .frEncGetSerialId => true
  | .frEncGetFeatureset => true
  | .frDecIaqInit => true
  | .frDecMeasureIaq r => r.length == 6
  | .frDecGetIaqBaseline r => r.length == 6
  | .frDecSetIaqBaseline => true
  | .frDecGetSerialId r => r.length == 9
  | .frDecGetFeatureset r => r.length == 3
  | .frChkfs _ => true
  | .reservedOp9 => true
  | .reservedOpA => true
  | .reservedOpB => true
  | .reservedOpC => true
  | .reservedOpD => true
  | .reservedOpE => true
  | .reservedOpF => true
  | .reservedEncSel6 => true
  | .reservedEncSel7 => true
  | .reservedEncSel8 => true
  | .reservedEncSel9 => true
  | .reservedEncSel10 => true
  | .reservedEncSel11 => true
  | .reservedEncSel12 => true
  | .reservedEncSel13 => true
  | .reservedEncSel14 => true
  | .reservedEncSel15 => true
  | .reservedDecSel6 => true
  | .reservedDecSel7 => true
  | .reservedDecSel8 => true
  | .reservedDecSel9 => true
  | .reservedDecSel10 => true
  | .reservedDecSel11 => true
  | .reservedDecSel12 => true
  | .reservedDecSel13 => true
  | .reservedDecSel14 => true
  | .reservedDecSel15 => true
  | .sensorIaqInit => true
  | .sensorMeasureIaq => true
  | .sensorGetIaqBaseline => true
  | .sensorSetIaqBaseline => true
  | .sensorGetSerialId => true
  | .sensorGetFeatureset => true

/-- Whether an instruction is one of the block's requests (format REQ80) rather than a wire opcode of the sensor. -/
def Instr.isRequest : Instr → Bool
  | .sensorIaqInit | .sensorMeasureIaq | .sensorGetIaqBaseline | .sensorSetIaqBaseline | .sensorGetSerialId
  | .sensorGetFeatureset => false
  | .nop | .crcInit | .crcByte _ | .crcBit _ | .frEncw _ | .frDecw _ _ _
  | .frEncIaqInit | .frEncMeasureIaq | .frEncGetIaqBaseline | .frEncSetIaqBaseline _ _ | .frEncGetSerialId
  | .frEncGetFeatureset
  | .frDecIaqInit | .frDecMeasureIaq _ | .frDecGetIaqBaseline _ | .frDecSetIaqBaseline | .frDecGetSerialId _
  | .frDecGetFeatureset _ | .frChkfs _
  | .reservedOp9 | .reservedOpA | .reservedOpB | .reservedOpC | .reservedOpD | .reservedOpE | .reservedOpF
  | .reservedEncSel6 | .reservedEncSel7 | .reservedEncSel8 | .reservedEncSel9 | .reservedEncSel10
  | .reservedEncSel11 | .reservedEncSel12 | .reservedEncSel13 | .reservedEncSel14 | .reservedEncSel15
  | .reservedDecSel6 | .reservedDecSel7 | .reservedDecSel8 | .reservedDecSel9 | .reservedDecSel10
  | .reservedDecSel11 | .reservedDecSel12 | .reservedDecSel13 | .reservedDecSel14 | .reservedDecSel15 => true

/-- One line of request assembly: the syntax rows of 30_encoding R59 and the pseudo-instructions of R60, with the
numbers as they are written. DESIGN CHOICE (log 21): no form outside those two tables, so none for `fr.enc 6` and
`raw 0x…`, which the assembly columns of 95_test_vectors V15 and V18 write. -/
inductive AsmLine where
  | nop
  | crcInit
  | crcByte (b : Nat)
  | crcBit (d : Nat)
  | frEncw (w : Nat)
  | frDecw (t0 t1 t2 : Nat)
  /-- `fr.enc NAME`: `data` is 0. -/
  | frEnc (name : Selector)
  /-- `fr.enc set_iaq_baseline, CO2, TVOC`. -/
  | frEncSetBaseline (co2 tvoc : Nat)
  /-- `fr.dec NAME, R0, …, R(3N-1)`. -/
  | frDec (name : Selector) (r : List Nat)
  | frChkfs (w : Nat)
  /-- `crc.calc B0, …, Bk`. -/
  | crcCalc (bs : List Nat)
  | crcWord (w : Nat)
  | crcBits8 (b : Nat)
deriving DecidableEq, Repr

/-- "An operand out of its range is an assembly error, not a request" (30_encoding R59). DESIGN CHOICE (log 21): a
`fr.dec` line of other than its 3N bytes is an error too, although 95_test_vectors V21 row 3 writes one with more; the
request word of that row decodes, and its bytes after the 3N-th are ignored (41_framer R84). `crc.calc` with no byte is an
error (log 17). -/
def AsmLine.wellFormed : AsmLine → Bool
  | .nop => true
  | .crcInit => true
  | .crcByte b => b < 256
  | .crcBit d => d < 2
  | .frEncw w => w < 65536
  | .frDecw t0 t1 t2 => t0 < 256 && t1 < 256 && t2 < 256
  | .frEnc _ => true
  | .frEncSetBaseline co2 tvoc => co2 < 65536 && tvoc < 65536
  | .frDec c r => r.length == 3 * (Machine.rom c).replyWords && r.all (· < 256)
  | .frChkfs w => w < 65536
  | .crcCalc bs => !bs.isEmpty && bs.all (· < 256)
  | .crcWord w => w < 65536
  | .crcBits8 b => b < 256

end Sys2Proof
end

