-- ==== Sys2Proof/Decode.lean ====
section
/-! DEFINITION. Decoding (30_encoding R46 to R52): a request word always names one instruction, reserved encodings among
them (R56, R57); a wire word names a sensor command or none, and is then rejected by name. After it the encoder, and
the opcode table as rows of mask and match. -/

namespace Sys2Proof

open Machine

/-- What the host can hand over to be executed: a request at the request port (10_state R30), or the sensor opcode of a
command frame on the bus (30_encoding R51). -/
inductive Fetched where
  | request (w : Request)
  | command (k : Word16)
deriving DecidableEq, Repr

/-- Why a word names no instruction. Only a wire word can fail: "FRM can frame no other sensor opcode" (30_encoding R57). -/
inductive DecodeError where
  /-- A 16-bit wire word that is none of the six sensor opcodes of 30_encoding R52. -/
  | unknownCommand (k : Word16)
deriving DecidableEq, Repr

/-- FR.ENC by selector (30_encoding R48, R50, R57). -/
def decodeEnc (sel : BitVec 4) (data : Field72) : Instr :=
  match sel.toNat with
  | 0 => .frEncIaqInit
  | 1 => .frEncMeasureIaq
  | 2 => .frEncGetIaqBaseline
  | 3 => .frEncSetIaqBaseline (dataHighWord data) (dataWord data)
  | 4 => .frEncGetSerialId
  | 5 => .frEncGetFeatureset
  | 6 => .reservedEncSel6
  | 7 => .reservedEncSel7
  | 8 => .reservedEncSel8
  | 9 => .reservedEncSel9
  | 10 => .reservedEncSel10
  | 11 => .reservedEncSel11
  | 12 => .reservedEncSel12
  | 13 => .reservedEncSel13
  | 14 => .reservedEncSel14
  | _ => .reservedEncSel15

/-- FR.DEC by selector; the reply bytes are the 3N highest of `data` (30_encoding R48, R49, R50, R57). -/
def decodeDec (sel : BitVec 4) (data : Field72) : Instr :=
  match sel.toNat with
  | 0 => .frDecIaqInit
  | 1 => .frDecMeasureIaq (takeBytes 6 data)
  | 2 => .frDecGetIaqBaseline (takeBytes 6 data)
  | 3 => .frDecSetIaqBaseline
  | 4 => .frDecGetSerialId (takeBytes 9 data)
  | 5 => .frDecGetFeatureset (takeBytes 3 data)
  | 6 => .reservedDecSel6
  | 7 => .reservedDecSel7
  | 8 => .reservedDecSel8
  | 9 => .reservedDecSel9
  | 10 => .reservedDecSel10
  | 11 => .reservedDecSel11
  | 12 => .reservedDecSel12
  | 13 => .reservedDecSel13
  | 14 => .reservedDecSel14
  | _ => .reservedDecSel15

/-- The request decoder, total on every 80-bit word (30_encoding R47, R49, R50, R56, R58). -/
def decodeRequest (w : Request) : Instr :=
  match (opField w).toNat with
  | 0 => .nop
  | 1 => .crcInit
  | 2 => .crcByte (dataByte (dataField w))
  | 3 => .crcBit (dataBit (dataField w))
  | 4 => .frEncw (dataWord (dataField w))
  | 5 => .frDecw (byteAt (dataField w) 0) (byteAt (dataField w) 1) (byteAt (dataField w) 2)
  | 6 => decodeEnc (selField w) (dataField w)
  | 7 => decodeDec (selField w) (dataField w)
  | 8 => .frChkfs (dataWord (dataField w))
  | 9 => .reservedOp9
  | 10 => .reservedOpA
  | 11 => .reservedOpB
  | 12 => .reservedOpC
  | 13 => .reservedOpD
  | 14 => .reservedOpE
  | _ => .reservedOpF

/-- The six wire opcodes (30_encoding R52); any other word names no command. -/
def decodeCommand (k : Word16) : Option Instr :=
  if k = (rom .iaqInit).opcode then some .sensorIaqInit
  else if k = (rom .measureIaq).opcode then some .sensorMeasureIaq
  else if k = (rom .getIaqBaseline).opcode then some .sensorGetIaqBaseline
  else if k = (rom .setIaqBaseline).opcode then some .sensorSetIaqBaseline
  else if k = (rom .getSerialId).opcode then some .sensorGetSerialId
  else if k = (rom .getFeatureset).opcode then some .sensorGetFeatureset
  else none

/-- The decoder, total. -/
def decode : Fetched → Except DecodeError Instr
  | .request w => .ok (decodeRequest w)
  | .command k =>
    match decodeCommand k with
    | some i => .ok i
    | none => .error (.unknownCommand k)

/-- A table word as this machine takes it: 16 bits are a wire opcode (format SENSOR_CMD16), anything else up to 80 bits
a request whose higher bits are zero (format REQ80; log 16). -/
def fetchedOfTableWord (nbits w : Nat) : Option Fetched :=
  if nbits = 16 then
    if w < 2 ^ 16 then some (.command (BitVec.ofNat 16 w)) else none
  else if nbits ≤ 80 then
    if w < 2 ^ 80 then some (.request (BitVec.ofNat 80 w)) else none
  else none

/-- The instruction the decoder reads from a word numbered as spec/opcode_table.json numbers it. -/
def decodeTableWord (nbits w : Nat) : Option Instr :=
  match fetchedOfTableWord nbits w with
  | some f =>
    match decode f with
    | .ok i => some i
    | .error _ => none
  | none => none

/-- FR.ENC with selector `sel` and no operand; "the assembler writes 0 into every ignored bit" (30_encoding R59). -/
def encSelWord (sel : BitVec 4) : Fetched := .request (mkRequest 0x6#4 sel 0#72)

/-- FR.DEC with selector `sel` and the reply bytes `r` (30_encoding R59). -/
def decSelWord (sel : BitVec 4) (r : List Byte) : Fetched := .request (mkRequest 0x7#4 sel (packLeft r))

/-- A reserved op with every other bit zero (30_encoding R56). -/
def reservedWord (op : BitVec 4) : Fetched := .request (mkRequest op 0#4 0#72)

/-- The encoder: the word of an instruction, 0 in every ignored bit (30_encoding R47, R49, R50, R52, R59). -/
def encode : Instr → Fetched
  | .nop => .request (mkRequest 0x0#4 0#4 0#72)
  | .crcInit => .request (mkRequest 0x1#4 0#4 0#72)
  | .crcByte b => .request (mkRequest 0x2#4 0#4 (b.setWidth 72))
  | .crcBit d => .request (mkRequest 0x3#4 0#4 (d.setWidth 72))
  | .frEncw w => .request (mkRequest 0x4#4 0#4 (w.setWidth 72))
  | .frDecw t0 t1 t2 => .request (mkRequest 0x5#4 0#4 (packLeft [t0, t1, t2]))
  | .frEncIaqInit => encSelWord (selIndex .iaqInit)
  | .frEncMeasureIaq => encSelWord (selIndex .measureIaq)
  | .frEncGetIaqBaseline => encSelWord (selIndex .getIaqBaseline)
  | .frEncSetIaqBaseline co2 tvoc => .request (mkRequest 0x6#4 (selIndex .setIaqBaseline) ((co2 ++ tvoc).setWidth 72))
  | .frEncGetSerialId => encSelWord (selIndex .getSerialId)
  | .frEncGetFeatureset => encSelWord (selIndex .getFeatureset)
  | .frDecIaqInit => decSelWord (selIndex .iaqInit) []
  | .frDecMeasureIaq r => decSelWord (selIndex .measureIaq) r
  | .frDecGetIaqBaseline r => decSelWord (selIndex .getIaqBaseline) r
  | .frDecSetIaqBaseline => decSelWord (selIndex .setIaqBaseline) []
  | .frDecGetSerialId r => decSelWord (selIndex .getSerialId) r
  | .frDecGetFeatureset r => decSelWord (selIndex .getFeatureset) r
  | .frChkfs w => .request (mkRequest 0x8#4 0#4 (w.setWidth 72))
  | .reservedOp9 => reservedWord 0x9#4
  | .reservedOpA => reservedWord 0xA#4
  | .reservedOpB => reservedWord 0xB#4
  | .reservedOpC => reservedWord 0xC#4
  | .reservedOpD => reservedWord 0xD#4
  | .reservedOpE => reservedWord 0xE#4
  | .reservedOpF => reservedWord 0xF#4
  | .reservedEncSel6 => encSelWord 6#4
  | .reservedEncSel7 => encSelWord 7#4
  | .reservedEncSel8 => encSelWord 8#4
  | .reservedEncSel9 => encSelWord 9#4
  | .reservedEncSel10 => encSelWord 10#4
  | .reservedEncSel11 => encSelWord 11#4
  | .reservedEncSel12 => encSelWord 12#4
  | .reservedEncSel13 => encSelWord 13#4
  | .reservedEncSel14 => encSelWord 14#4
  | .reservedEncSel15 => encSelWord 15#4
  | .reservedDecSel6 => decSelWord 6#4 []
  | .reservedDecSel7 => decSelWord 7#4 []
  | .reservedDecSel8 => decSelWord 8#4 []
  | .reservedDecSel9 => decSelWord 9#4 []
  | .reservedDecSel10 => decSelWord 10#4 []
  | .reservedDecSel11 => decSelWord 11#4 []
  | .reservedDecSel12 => decSelWord 12#4 []
  | .reservedDecSel13 => decSelWord 13#4 []
  | .reservedDecSel14 => decSelWord 14#4 []
  | .reservedDecSel15 => decSelWord 15#4 []
  | .sensorIaqInit => .command (rom .iaqInit).opcode
  | .sensorMeasureIaq => .command (rom .measureIaq).opcode
  | .sensorGetIaqBaseline => .command (rom .getIaqBaseline).opcode
  | .sensorSetIaqBaseline => .command (rom .setIaqBaseline).opcode
  | .sensorGetSerialId => .command (rom .getSerialId).opcode
  | .sensorGetFeatureset => .command (rom .getFeatureset).opcode

/-- The row of spec/opcode_table.json an instruction belongs to, by its mnemonic there. -/
def Instr.mnemonic : Instr → String
  | .nop => "nop"
  | .crcInit => "crc.init"
  | .crcByte _ => "crc.byte"
  | .crcBit _ => "crc.bit"
  | .frEncw _ => "fr.encw"
  | .frDecw _ _ _ => "fr.decw"
  | .frEncIaqInit => "fr.enc_iaq_init"
  | .frEncMeasureIaq => "fr.enc_measure_iaq"
  | .frEncGetIaqBaseline => "fr.enc_get_iaq_baseline"
  | .frEncSetIaqBaseline _ _ => "fr.enc_set_iaq_baseline"
  | .frEncGetSerialId => "fr.enc_get_serial_id"
  | .frEncGetFeatureset => "fr.enc_get_featureset"
  | .frDecIaqInit => "fr.dec_iaq_init"
  | .frDecMeasureIaq _ => "fr.dec_measure_iaq"
  | .frDecGetIaqBaseline _ => "fr.dec_get_iaq_baseline"
  | .frDecSetIaqBaseline => "fr.dec_set_iaq_baseline"
  | .frDecGetSerialId _ => "fr.dec_get_serial_id"
  | .frDecGetFeatureset _ => "fr.dec_get_featureset"
  | .frChkfs _ => "fr.chkfs"
  | .reservedOp9 => "reserved_op_0x9"
  | .reservedOpA => "reserved_op_0xA"
  | .reservedOpB => "reserved_op_0xB"
  | .reservedOpC => "reserved_op_0xC"
  | .reservedOpD => "reserved_op_0xD"
  | .reservedOpE => "reserved_op_0xE"
  | .reservedOpF => "reserved_op_0xF"
  | .reservedEncSel6 => "reserved_fr.enc_sel_6"
  | .reservedEncSel7 => "reserved_fr.enc_sel_7"
  | .reservedEncSel8 => "reserved_fr.enc_sel_8"
  | .reservedEncSel9 => "reserved_fr.enc_sel_9"
  | .reservedEncSel10 => "reserved_fr.enc_sel_10"
  | .reservedEncSel11 => "reserved_fr.enc_sel_11"
  | .reservedEncSel12 => "reserved_fr.enc_sel_12"
  | .reservedEncSel13 => "reserved_fr.enc_sel_13"
  | .reservedEncSel14 => "reserved_fr.enc_sel_14"
  | .reservedEncSel15 => "reserved_fr.enc_sel_15"
  | .reservedDecSel6 => "reserved_fr.dec_sel_6"
  | .reservedDecSel7 => "reserved_fr.dec_sel_7"
  | .reservedDecSel8 => "reserved_fr.dec_sel_8"
  | .reservedDecSel9 => "reserved_fr.dec_sel_9"
  | .reservedDecSel10 => "reserved_fr.dec_sel_10"
  | .reservedDecSel11 => "reserved_fr.dec_sel_11"
  | .reservedDecSel12 => "reserved_fr.dec_sel_12"
  | .reservedDecSel13 => "reserved_fr.dec_sel_13"
  | .reservedDecSel14 => "reserved_fr.dec_sel_14"
  | .reservedDecSel15 => "reserved_fr.dec_sel_15"
  | .sensorIaqInit => "sensor_IAQ_INIT"
  | .sensorMeasureIaq => "sensor_MEASURE_IAQ"
  | .sensorGetIaqBaseline => "sensor_GET_IAQ_BASELINE"
  | .sensorSetIaqBaseline => "sensor_SET_IAQ_BASELINE"
  | .sensorGetSerialId => "sensor_GET_SERIAL_ID"
  | .sensorGetFeatureset => "sensor_GET_FEATURESET"

/-- A row of the opcode table: "A request `r` selects a row when `(r & mask) == match`" (INDEX.md). -/
structure TableRow where
  mnemonic : String
  pattern : Request
  mask : Request
deriving DecidableEq, Repr

/-- Whether a request selects a row (INDEX.md). -/
def TableRow.selects (row : TableRow) (r : Request) : Bool := (r &&& row.mask) == row.pattern

/-- A row decided by `op` alone. -/
def opRow (m : String) (op : BitVec 4) : TableRow := ⟨m, mkRequest op 0#4 0#72, mkRequest 0xF#4 0#4 0#72⟩

/-- A row decided by `op` and `sel`. -/
def selRow (m : String) (op sel : BitVec 4) : TableRow := ⟨m, mkRequest op sel 0#72, mkRequest 0xF#4 0xF#4 0#72⟩

/-- The REQ80 rows that name an operation (30_encoding R50). -/
def instructionRows : List TableRow :=
  [ opRow "nop" 0x0#4,
    opRow "crc.init" 0x1#4,
    opRow "crc.byte" 0x2#4,
    opRow "crc.bit" 0x3#4,
    opRow "fr.encw" 0x4#4,
    opRow "fr.decw" 0x5#4,
    selRow "fr.enc_iaq_init" 0x6#4 0x0#4,
    selRow "fr.enc_measure_iaq" 0x6#4 0x1#4,
    selRow "fr.enc_get_iaq_baseline" 0x6#4 0x2#4,
    selRow "fr.enc_set_iaq_baseline" 0x6#4 0x3#4,
    selRow "fr.enc_get_serial_id" 0x6#4 0x4#4,
    selRow "fr.enc_get_featureset" 0x6#4 0x5#4,
    selRow "fr.dec_iaq_init" 0x7#4 0x0#4,
    selRow "fr.dec_measure_iaq" 0x7#4 0x1#4,
    selRow "fr.dec_get_iaq_baseline" 0x7#4 0x2#4,
    selRow "fr.dec_set_iaq_baseline" 0x7#4 0x3#4,
    selRow "fr.dec_get_serial_id" 0x7#4 0x4#4,
    selRow "fr.dec_get_featureset" 0x7#4 0x5#4,
    opRow "fr.chkfs" 0x8#4 ]

/-- The REQ80 rows of the reserved ops (30_encoding R56). -/
def reservedOpRows : List TableRow :=
  [ opRow "reserved_op_0x9" 0x9#4,
    opRow "reserved_op_0xA" 0xA#4,
    opRow "reserved_op_0xB" 0xB#4,
    opRow "reserved_op_0xC" 0xC#4,
    opRow "reserved_op_0xD" 0xD#4,
    opRow "reserved_op_0xE" 0xE#4,
    opRow "reserved_op_0xF" 0xF#4 ]

/-- The REQ80 rows of the reserved selectors (30_encoding R57). -/
def reservedSelRows : List TableRow :=
  [ selRow "reserved_fr.enc_sel_6" 0x6#4 0x6#4,
    selRow "reserved_fr.enc_sel_7" 0x6#4 0x7#4,
    selRow "reserved_fr.enc_sel_8" 0x6#4 0x8#4,
    selRow "reserved_fr.enc_sel_9" 0x6#4 0x9#4,
    selRow "reserved_fr.enc_sel_10" 0x6#4 0xA#4,
    selRow "reserved_fr.enc_sel_11" 0x6#4 0xB#4,
    selRow "reserved_fr.enc_sel_12" 0x6#4 0xC#4,
    selRow "reserved_fr.enc_sel_13" 0x6#4 0xD#4,
    selRow "reserved_fr.enc_sel_14" 0x6#4 0xE#4,
    selRow "reserved_fr.enc_sel_15" 0x6#4 0xF#4,
    selRow "reserved_fr.dec_sel_6" 0x7#4 0x6#4,
    selRow "reserved_fr.dec_sel_7" 0x7#4 0x7#4,
    selRow "reserved_fr.dec_sel_8" 0x7#4 0x8#4,
    selRow "reserved_fr.dec_sel_9" 0x7#4 0x9#4,
    selRow "reserved_fr.dec_sel_10" 0x7#4 0xA#4,
    selRow "reserved_fr.dec_sel_11" 0x7#4 0xB#4,
    selRow "reserved_fr.dec_sel_12" 0x7#4 0xC#4,
    selRow "reserved_fr.dec_sel_13" 0x7#4 0xD#4,
    selRow "reserved_fr.dec_sel_14" 0x7#4 0xE#4,
    selRow "reserved_fr.dec_sel_15" 0x7#4 0xF#4 ]

/-- All REQ80 rows of spec/opcode_table.json. -/
def requestRows : List TableRow := instructionRows ++ reservedOpRows ++ reservedSelRows

end Sys2Proof
end

