-- ==== Sys2Proof/Machine/Crc.lean ====
section
/-! DEFINITION. The CRC functions (40_crc R61 to R64) and the triples of the wire format (41_framer R77, R78). "Every CRC
value in this spec is computed by the functions of rules R62 to R64 and by nothing else" (R61). -/

namespace Sys2Proof.Machine

/-- One turn of the loop of 40_crc R62: shift left, and XOR 0x31 when the high bit was set. -/
def shiftStep (x : Byte) : Byte := if x.getLsbD 7 then (x <<< 1) ^^^ crcPoly else x <<< 1

/-- `n` turns of that loop. -/
def shiftSteps : Nat → Byte → Byte
  | 0, x => x
  | n + 1, x => shiftSteps n (shiftStep x)

/-- `crc8_step(c, b)` (40_crc R62). -/
def crc8Step (c b : Byte) : Byte := shiftSteps 8 (c ^^^ b)

/-- The loop of 40_crc R63 from a given register value. -/
def crc8From (c : Byte) (s : List Byte) : Byte := s.foldl crc8Step c

/-- `crc8(s)` (40_crc R63). -/
def crc8 (s : List Byte) : Byte := crc8From crcInit s

/-- `crc8_bit(c, d)` (40_crc R64). -/
def crc8Bit (c : Byte) (d : BitVec 1) : Byte :=
  if c.extractLsb' 7 1 ^^^ d = 1#1 then (c <<< 1) ^^^ crcPoly else c <<< 1

/-- The `k`-th bit of a byte fed serially, most significant first (20_memory R40). -/
def bitMsbFirst (b : Byte) (k : Nat) : BitVec 1 := b.extractLsb' (7 - k) 1

/-- The register after the first `k` bits of `b`, fed most significant first (40_crc R66, R67). -/
def feedBits (c b : Byte) : Nat → Byte
  | 0 => c
  | k + 1 => crc8Bit (feedBits c b k) (bitMsbFirst b k)

/-- The two bytes of a word, most significant first (20_memory R37). -/
def wordBytes (w : Word16) : List Byte := [hi w, lo w]

/-- `enc_word(w)` (41_framer R77). -/
def encWord (w : Word16) : List Byte := [hi w, lo w, crc8 [hi w, lo w]]

/-- `dec_word(t0, t1, t2)`: `ok` and the word, 0x0000 when the checksum fails (41_framer R78). -/
def decWord (t0 t1 t2 : Byte) : Bool × Word16 :=
  if crc8 [t0, t1] = t2 then (true, word t0 t1) else (false, 0x0000#16)

/-- The `n` words of a reply frame, or nothing when any checksum fails (41_framer R84). Bytes after the `3n`-th are
ignored. A frame with fewer bytes cannot be expressed by a request (R84); such a list has no words (log 14). -/
def decFrame : Nat → List Byte → Option (List Word16)
  | 0, _ => some []
  | n + 1, t0 :: t1 :: t2 :: r =>
    match decWord t0 t1 t2 with
    | (true, w) => (decFrame n r).map (w :: ·)
    | (false, _) => none
  | _ + 1, _ => none

/-- The command frame of a sensor opcode with its payload words (30_encoding R54). -/
def commandFrame (k : Word16) (payload : List Word16) : List Byte := wordBytes k ++ payload.flatMap encWord

end Sys2Proof.Machine
end

