-- ==== Sys2Proof/Machine/State.lean ====
section
/-! DEFINITION. The state of the machine as plain data, the reasons a step can stop, and the state after reset
(10_state; 30_encoding R55; 60_exceptions R96). -/

namespace Sys2Proof.Machine

/-- The status of a response (60_exceptions R96). Codes 5 and 6 are reserved and never raised, so they have no
constructor (log 13); the numbers are `Status.code`. -/
inductive Status where
  /-- No error; every op. -/
  | ok
  /-- Some triple's checksum byte differs; FR.DECW and FR.DEC. -/
  | checksumMismatch
  /-- A zero baseline pair; FR.ENC with selector 3. -/
  | invalidBaseline
  /-- A feature-set word other than 0x0020; FR.CHKFS. -/
  | deviceNotDetected
  /-- "reserved for the host to report a transport failure"; the block never raises it. -/
  | transportError
  /-- A reserved op or selector. -/
  | illegalOp
deriving DecidableEq, Repr

/-- The response record (30_encoding R55). -/
structure Response where
  status : Status
  /-- The CRC register after the step. -/
  crc : Byte
  /-- Number of valid bytes of `payload`. -/
  len : BitVec 4
  /-- Byte sequence, left-aligned (20_memory R41). -/
  payload : Field72
  /-- FR.ENC: reply words the command expects. -/
  rxw : BitVec 2
  /-- FR.ENC: settle delay in milliseconds. -/
  delayMs : BitVec 8
  /-- FR.ENC: `DEV_ADDR`. -/
  addr : BitVec 7
deriving DecidableEq, Repr

/-- The levels of the block's input pins at one rising clock edge (10_state R30, R33). -/
structure Pins where
  rst : Bool
  reqValid : Bool
  req : Request
deriving DecidableEq, Repr

/-- What the host does next. Requests and resets come at two levels: as the transaction of 00_scope R14 (`request`,
`reset`), or one clock edge at a time (`clock`), which shows what a SERIAL build does inside a CRC.BYTE (log 4). -/
inductive Event where
  /-- The host presents this request and holds it until it is accepted; it is served in one step (00_scope R14). -/
  | request (w : Request)
  /-- A rising edge with `rst = 1`: "In the transaction model, reset is a step of its own" (70_reset_and_hazards R111). -/
  | reset
  /-- One rising edge with these pin levels (10_state R30, R33). -/
  | clock (p : Pins)
  /-- The transport has written a command frame with this sensor opcode (30_encoding R51, 70 R121 step 2). -/
  | command (k : Word16)
  /-- The host has waited this many milliseconds since the command and read its reply, if it has one (70 R121 steps 3
  to 5; log 19). The bytes it read are any bytes (93 I9): they are what the host hands to FR.DEC later. -/
  | finish (waitedMs : Nat)
  /-- The host gives up the transaction under way: its delay or its read is interrupted (70 R123; log 11). -/
  | abandon
  /-- The host has run the construction sequence to its end and holds a new handle (70 R122, R123; log 11). -/
  | constructed
deriving DecidableEq, Repr

/-- Why something stops. No step does: requests answer with a status (60_exceptions R97, R100, R104), and what the host
does on the bus never stops the block (70_reset_and_hazards R119, R120). -/
inductive Fault where
  /-- A packed response shows a reserved status code: "never produced; a model that sees one should `fault`" (93 I6).
  Raised by `unpackResponse` only. Safe: no response of the block has such a code (60_exceptions R96; log 13). -/
  | reservedStatus (code : BitVec 3)
deriving DecidableEq, Repr

/-- Why a step is refused. -/
inductive Refusal where
  /-- An instruction without a meaning yet, by the mnemonic of its row; no arm raises it. Safe. -/
  | notModelled (mnemonic : String)
deriving DecidableEq, Repr

/-- The whole machine. `crc` is the only architectural register (10_state R20); the hidden serial state, the ports, the
build parameters and the host's inputs stand beside it as plain data. -/
structure State where
  /-- The CRC register (10_state R21). -/
  crc : Byte
  /-- Progress counter of a SERIAL CRC.BYTE: bits folded so far, 0 when none is in progress (10_state R27, R34). -/
  serialCount : BitVec 3
  /-- The byte a SERIAL CRC.BYTE is folding; hidden (10_state R27; log 5). -/
  serialByte : Byte
  /-- The intermediate register value of a SERIAL CRC.BYTE; hidden, never shown as `crc` (10_state R27; log 5). -/
  serialReg : Byte
  /-- The level of `rst` at the last step (10_state R33). -/
  rst : Bool
  /-- The response port after the last step: `resp_valid` and the record (10_state R31; log 2). -/
  resp : Option Response
  /-- `CRC_IMPL` and `DEV_ADDR` (00_scope R6, R7). -/
  build : Build
  /-- What the host does, in order (10_state R23, 20_memory R44; log 1). -/
  inbox : List Event
  /-- The command the host wrote last and whose transaction it has not completed: the one transaction that may be in
  flight (70 R119; log 10). It is not state of the block, which does not check it. -/
  slot : Option Selector
  /-- Whether "the handle's state is no longer trustworthy" (70 R123): the host has broken a rule of the bus and has not
  constructed a new handle since (log 11). It is not state of the block either. -/
  untrusted : Bool
  /-- The model's own counter for the free value of `crc_out` (log 6). -/
  draws : Nat
deriving DecidableEq, Repr

/-- The state right after reset of a block with the given build (10_state R34, 70_reset_and_hazards R111). -/
def State.resetOf (b : Build) : State :=
  { crc := crcInit, serialCount := 0#3, serialByte := 0#8, serialReg := 0#8, rst := false, resp := none, build := b,
    inbox := [], slot := none, untrusted := false, draws := 0 }

/-- The state right after reset, for the default build (00_scope R7; log 3). -/
def State.reset : State := State.resetOf Config.defaultBuild

/-- The state at power-up, before any reset edge: `crc` is unspecified, a free value (70_reset_and_hazards R113; log 7). -/
def State.powerUp (b : Build) : State := { State.resetOf b with crc := Config.powerUpCrc }

/-- The outcome of a meaning. -/
abbrev Result := Host.Outcome State Fault Refusal

end Sys2Proof.Machine
end

