-- ==== Sys2Proof/Machine/Flags.lean ====
section
/-! DEFINITION. The status codes and the comparisons behind them. The block has no persistent flags (10_state R24); "The
only comparisons are 8-bit equality in `dec_word`, 16-bit equality in FR.CHKFS, and the test for a 32-bit zero pair in
FR.ENC" (40_crc R129). The first of the three stands in `decWord`. -/

namespace Sys2Proof.Machine

/-- The 3-bit code of a status (60_exceptions R96). -/
def Status.code : Status → BitVec 3
  | .ok => 0#3
  | .checksumMismatch => 1#3
  | .invalidBaseline => 2#3
  | .deviceNotDetected => 3#3
  | .transportError => 4#3
  | .illegalOp => 7#3

/-- The status of a code; 5 and 6 are reserved (60_exceptions R96). -/
def statusOfCode (c : BitVec 3) : Option Status :=
  match c.toNat with
  | 0 => some .ok
  | 1 => some .checksumMismatch
  | 2 => some .invalidBaseline
  | 3 => some .deviceNotDetected
  | 4 => some .transportError
  | 7 => some .illegalOp
  | _ => none

/-- The zero-pair test of FR.ENC (41_framer R83). -/
def isZeroPair (co2 tvoc : Word16) : Bool := co2 == 0x0000#16 && tvoc == 0x0000#16

/-- The 16-bit comparison of FR.CHKFS, no bit masked out (41_framer R86). -/
def featuresetMatches (w : Word16) : Bool := w == featuresetExpected

end Sys2Proof.Machine
end

