-- ==== Sys2Proof/Machine/Ops.lean ====
section
/-! DEFINITION. The named operations over the state: completing a request, raising a status (the block's only error
mechanism, 60_exceptions R97, R104), reset, the serial CRC.BYTE, the outputs, and the transactions on the bus. There is no
return from an error to model: "There is no return op" (60_exceptions R105). -/

namespace Sys2Proof.Machine

/-- A response with every field but `status` and `crc` zero (30_encoding R55). -/
def bareResponse (st : Status) (crc : Byte) : Response :=
  { status := st, crc := crc, len := 0#4, payload := 0#72, rxw := 0#2, delayMs := 0#8, addr := 0#7 }

/-- The packed form of a response (30_encoding R55). -/
def packResponse (r : Response) : BitVec 104 :=
  r.status.code ++ (r.crc ++ (r.len ++ (r.rxw ++ (r.delayMs ++ (r.addr ++ r.payload)))))

/-- The record of a packed response; a reserved status code is a fault (30_encoding R55; 93 I6; log 13). -/
def unpackResponse (p : BitVec 104) : Except Fault Response :=
  match statusOfCode (p.extractLsb' 101 3) with
  | none => .error (.reservedStatus (p.extractLsb' 101 3))
  | some st =>
    .ok { status := st, crc := p.extractLsb' 93 8, len := p.extractLsb' 89 4, payload := p.extractLsb' 0 72,
          rxw := p.extractLsb' 87 2, delayMs := p.extractLsb' 79 8, addr := p.extractLsb' 72 7 }

/-- Complete the request with a response: one record on the response port (10_state R31). -/
def complete (r : Response) (s : State) : Result := .next { s with resp := some r }

/-- Complete with status OK and no payload, the register unchanged. -/
def acknowledge (s : State) : Result := complete (bareResponse .ok s.crc) s

/-- `raise S`: the request completes at once with this status, `crc` as it was, every other field 0 and nothing else
written (60_exceptions R97). -/
def raise (st : Status) (s : State) : Result := complete (bareResponse st s.crc) s

/-- Write the CRC register and report the new value, status OK (40_crc R68, R69, R70). -/
def writeCrc (v : Byte) (s : State) : Result := complete (bareResponse .ok v) { s with crc := v }

/-- The OK response that carries a byte sequence, `crc` copied in (20_memory R41, 30_encoding R55, 41_framer R76). -/
def bytesResponse (bytes : List Byte) (crc : Byte) : Response :=
  { bareResponse .ok crc with len := BitVec.ofNat 4 bytes.length, payload := packLeft bytes }

/-- Complete with status OK and a byte sequence. -/
def answer (bytes : List Byte) (s : State) : Result := complete (bytesResponse bytes s.crc) s

/-- Complete FR.ENC: the frame of a selector with its payload words, the reply-word count, the delay and `DEV_ADDR`
(41_framer R81). -/
def answerCommand (c : Selector) (payload : List Word16) (s : State) : Result :=
  complete
    { bytesResponse (commandFrame (rom c).opcode payload) s.crc with
      rxw := BitVec.ofNat 2 (rom c).replyWords
      delayMs := BitVec.ofNat 8 (rom c).delayMs
      addr := s.build.devAddr } s

/-- Complete FR.DEC: all words of the reply, or CHECKSUM_MISMATCH and none (41_framer R84, R85). -/
def answerReply (c : Selector) (r : List Byte) (s : State) : Result :=
  match decFrame (rom c).replyWords r with
  | some ws => answer (ws.flatMap wordBytes) s
  | none => raise .checksumMismatch s

/-! Outputs -/

/-- Whether a SERIAL CRC.BYTE is in progress (10_state R27, R34). -/
def State.inProgress (s : State) : Bool := s.serialCount != 0#3

/-- `req_ready`: 0 during reset and while a byte is in progress (10_state R30, R33). -/
def State.reqReady (s : State) : Bool := !s.rst && !s.inProgress

/-- `resp_valid` (10_state R31). -/
def State.respValid (s : State) : Bool := s.resp.isSome

/-- `crc_out`: always `crc`, but any value while a SERIAL CRC.BYTE is in progress (10_state R32; log 6). -/
def State.crcOut (s : State) : Byte := if s.inProgress then Config.crcOutMidByte s.draws else s.crc

/-! Reset and the passing of time -/

/-- A rising edge with `rst = 1`: `crc <- 0xFF`, the progress counter 0, no response; a byte in progress is abandoned
(70_reset_and_hazards R111, R112). -/
def takeReset (s : State) : State :=
  { s with crc := crcInit, serialCount := 0#3, serialByte := 0#8, serialReg := 0#8, rst := true, resp := none }

/-- A step in which no request is accepted and none is in progress (log 15). -/
def idle (s : State) : State := { s with rst := false, resp := none }

/-- What accepting a request does before it is executed: it leaves the input list, `rst` is 0, and the last response is
no longer shown. -/
def accept (rest : List Event) (s : State) : State := { s with inbox := rest, rst := false, resp := none }

/-- SERIAL: the edge that accepts a CRC.BYTE folds the first of its 8 bits (10_state R27, R30; 70 R117; log 20). -/
def startByte (b : Byte) (s : State) : State :=
  { s with
    serialCount := 1#3, serialByte := b, serialReg := crc8Bit s.crc (bitMsbFirst b 0), draws := s.draws + 1 }

/-- SERIAL: one more cycle of the CRC.BYTE in progress. The eighth bit completes it: `crc` and the response change
together (20_memory R43, 40_crc R69). -/
def advanceByte (s : State) : State :=
  let c := crc8Bit s.serialReg (bitMsbFirst s.serialByte s.serialCount.toNat)
  if s.serialCount = 7#3 then
    { s with
      crc := c, serialCount := 0#3, serialByte := 0#8, serialReg := 0#8, rst := false,
      resp := some (bareResponse .ok c) }
  else
    { s with serialCount := s.serialCount + 1#3, serialReg := c, rst := false, resp := none, draws := s.draws + 1 }

/-! The bus. The block checks none of this ("The block does not check this, since it keeps no transaction state",
70_reset_and_hazards R119), so every operation goes on; a broken rule is recorded. What the sensor then answers is any
bytes (93 I9). -/

/-- A command frame is on the bus and its transaction is now the one the host has to complete; the previous one should
have been complete (70_reset_and_hazards R119; log 10). -/
def openTransaction (c : Selector) (s : State) : Result :=
  .next { s with slot := some c, untrusted := s.untrusted || s.slot.isSome }

/-- The delay or the read is interrupted: the device is left mid-transaction and the handle is no longer trustworthy
(70_reset_and_hazards R123; log 11). With no transaction under way there is nothing to give up. -/
def abandonTransaction (s : State) : Result := .next { s with untrusted := s.untrusted || s.slot.isSome }

/-- The host has waited and read the reply, if there is one: the transaction is complete when at least the command's
delay has passed, and interrupted when not (70_reset_and_hazards R119, R120, R123; log 19). With none under way there is
nothing to end. -/
def endTransaction (waitedMs : Nat) (s : State) : Result :=
  match s.slot with
  | none => .next s
  | some c => if (rom c).delayMs ≤ waitedMs then .next { s with slot := none } else abandonTransaction s

/-- The host has written a word that is no sensor command; what the sensor does with it is not stated (91 N10; log 12). -/
def badInput (s : State) : Result := .next { s with untrusted := true }

/-- The host holds a new handle: its state can be trusted unless a transaction is still under way (70_reset_and_hazards
R122, R123; log 11). -/
def renewHandle (s : State) : Result := .next { s with untrusted := s.untrusted && s.slot.isSome }

end Sys2Proof.Machine
end

