-- ==== Sys2Proof/Machine/Crcg.lean ====
section
/-! DEFINITION. NOP and the ops of the CRC generator (40_crc R68 to R71). -/

namespace Sys2Proof.Machine

/-- NOP: `crc` is reported and unchanged (40_crc R71). -/
def execNop (s : State) : Result := acknowledge s

/-- CRC.INIT: `crc <- 0xFF` (40_crc R68). -/
def execCrcInit (s : State) : Result := writeCrc crcInit s

/-- CRC.BYTE: `crc <- crc8_step(crc, b)`, one atomic step under both builds (40_crc R69, 10_state R27). -/
def execCrcByte (b : Byte) (s : State) : Result := writeCrc (crc8Step s.crc b) s

/-- CRC.BIT: `crc <- crc8_bit(crc, d)` (40_crc R70). -/
def execCrcBit (d : BitVec 1) (s : State) : Result := writeCrc (crc8Bit s.crc d) s

end Sys2Proof.Machine
end

