-- ==== Sys2Proof/Machine/Frm.lean ====
section
/-! DEFINITION. The ops of the framer (41_framer R79 to R86). "Every op here leaves `crc` unchanged and copies it into
`resp.crc`." -/

namespace Sys2Proof.Machine

/-- FR.ENCW: one word as a triple (41_framer R79). -/
def execFrEncw (w : Word16) (s : State) : Result := answer (encWord w) s

/-- FR.DECW: check and decode one triple (41_framer R80). -/
def execFrDecw (t0 t1 t2 : Byte) (s : State) : Result :=
  if (decWord t0 t1 t2).1 then answer [t0, t1] s else raise .checksumMismatch s

/-- FR.ENC IAQ_INIT (41_framer R81). -/
def execFrEncIaqInit (s : State) : Result := answerCommand .iaqInit [] s

/-- FR.ENC MEASURE_IAQ (41_framer R81). -/
def execFrEncMeasureIaq (s : State) : Result := answerCommand .measureIaq [] s

/-- FR.ENC GET_IAQ_BASELINE (41_framer R81). -/
def execFrEncGetIaqBaseline (s : State) : Result := answerCommand .getIaqBaseline [] s

/-- FR.ENC SET_IAQ_BASELINE: TVOC first on the wire, and no frame for a zero pair (41_framer R81, R82, R83). -/
def execFrEncSetIaqBaseline (co2 tvoc : Word16) (s : State) : Result :=
  if isZeroPair co2 tvoc then raise .invalidBaseline s else answerCommand .setIaqBaseline [tvoc, co2] s

/-- FR.ENC GET_SERIAL_ID (41_framer R81). -/
def execFrEncGetSerialId (s : State) : Result := answerCommand .getSerialId [] s

/-- FR.ENC GET_FEATURESET (41_framer R81). -/
def execFrEncGetFeatureset (s : State) : Result := answerCommand .getFeatureset [] s

/-- FR.DEC IAQ_INIT: an empty reply (41_framer R85). -/
def execFrDecIaqInit (s : State) : Result := answerReply .iaqInit [] s

/-- FR.DEC MEASURE_IAQ: two words (41_framer R84). -/
def execFrDecMeasureIaq (r : List Byte) (s : State) : Result := answerReply .measureIaq r s

/-- FR.DEC GET_IAQ_BASELINE: two words (41_framer R84). -/
def execFrDecGetIaqBaseline (r : List Byte) (s : State) : Result := answerReply .getIaqBaseline r s

/-- FR.DEC SET_IAQ_BASELINE: an empty reply (41_framer R85). -/
def execFrDecSetIaqBaseline (s : State) : Result := answerReply .setIaqBaseline [] s

/-- FR.DEC GET_SERIAL_ID: three words (41_framer R84, R92). -/
def execFrDecGetSerialId (r : List Byte) (s : State) : Result := answerReply .getSerialId r s

/-- FR.DEC GET_FEATURESET: one word (41_framer R84). -/
def execFrDecGetFeatureset (r : List Byte) (s : State) : Result := answerReply .getFeatureset r s

/-- FR.CHKFS: compare with the expected identity (41_framer R86). -/
def execFrChkfs (w : Word16) (s : State) : Result :=
  if featuresetMatches w then acknowledge s else raise .deviceNotDetected s

end Sys2Proof.Machine
end

