-- ==== Sys2Proof/Machine/Reserved.lean ====
section
/-! DEFINITION. The reserved ops and reserved selectors: "Such a request completes with `status = ILLEGAL_OP` (7). It
leaves `crc` unchanged and returns no payload" (30_encoding R56, R57; 60_exceptions R97, R98). -/

namespace Sys2Proof.Machine

/-- Reserved op 0x9 (30_encoding R56). -/
def execReservedOp9 (s : State) : Result := raise .illegalOp s

/-- Reserved op 0xA (30_encoding R56). -/
def execReservedOpA (s : State) : Result := raise .illegalOp s

/-- Reserved op 0xB (30_encoding R56). -/
def execReservedOpB (s : State) : Result := raise .illegalOp s

/-- Reserved op 0xC (30_encoding R56). -/
def execReservedOpC (s : State) : Result := raise .illegalOp s

/-- Reserved op 0xD (30_encoding R56). -/
def execReservedOpD (s : State) : Result := raise .illegalOp s

/-- Reserved op 0xE (30_encoding R56). -/
def execReservedOpE (s : State) : Result := raise .illegalOp s

/-- Reserved op 0xF (30_encoding R56). -/
def execReservedOpF (s : State) : Result := raise .illegalOp s

/-- FR.ENC with the reserved selector 6 (30_encoding R57). -/
def execReservedEncSel6 (s : State) : Result := raise .illegalOp s

/-- FR.ENC with the reserved selector 7 (30_encoding R57). -/
def execReservedEncSel7 (s : State) : Result := raise .illegalOp s

/-- FR.ENC with the reserved selector 8 (30_encoding R57). -/
def execReservedEncSel8 (s : State) : Result := raise .illegalOp s

/-- FR.ENC with the reserved selector 9 (30_encoding R57). -/
def execReservedEncSel9 (s : State) : Result := raise .illegalOp s

/-- FR.ENC with the reserved selector 10 (30_encoding R57). -/
def execReservedEncSel10 (s : State) : Result := raise .illegalOp s

/-- FR.ENC with the reserved selector 11 (30_encoding R57). -/
def execReservedEncSel11 (s : State) : Result := raise .illegalOp s

/-- FR.ENC with the reserved selector 12 (30_encoding R57). -/
def execReservedEncSel12 (s : State) : Result := raise .illegalOp s

/-- FR.ENC with the reserved selector 13 (30_encoding R57). -/
def execReservedEncSel13 (s : State) : Result := raise .illegalOp s

/-- FR.ENC with the reserved selector 14 (30_encoding R57). -/
def execReservedEncSel14 (s : State) : Result := raise .illegalOp s

/-- FR.ENC with the reserved selector 15 (30_encoding R57). -/
def execReservedEncSel15 (s : State) : Result := raise .illegalOp s

/-- FR.DEC with the reserved selector 6 (30_encoding R57). -/
def execReservedDecSel6 (s : State) : Result := raise .illegalOp s

/-- FR.DEC with the reserved selector 7 (30_encoding R57). -/
def execReservedDecSel7 (s : State) : Result := raise .illegalOp s

/-- FR.DEC with the reserved selector 8 (30_encoding R57). -/
def execReservedDecSel8 (s : State) : Result := raise .illegalOp s

/-- FR.DEC with the reserved selector 9 (30_encoding R57). -/
def execReservedDecSel9 (s : State) : Result := raise .illegalOp s

/-- FR.DEC with the reserved selector 10 (30_encoding R57). -/
def execReservedDecSel10 (s : State) : Result := raise .illegalOp s

/-- FR.DEC with the reserved selector 11 (30_encoding R57). -/
def execReservedDecSel11 (s : State) : Result := raise .illegalOp s

/-- FR.DEC with the reserved selector 12 (30_encoding R57). -/
def execReservedDecSel12 (s : State) : Result := raise .illegalOp s

/-- FR.DEC with the reserved selector 13 (30_encoding R57). -/
def execReservedDecSel13 (s : State) : Result := raise .illegalOp s

/-- FR.DEC with the reserved selector 14 (30_encoding R57). -/
def execReservedDecSel14 (s : State) : Result := raise .illegalOp s

/-- FR.DEC with the reserved selector 15 (30_encoding R57). -/
def execReservedDecSel15 (s : State) : Result := raise .illegalOp s

end Sys2Proof.Machine
end

