-- ==== Sys2Proof/Machine/Sensor.lean ====
section
/-! DEFINITION. The sensor's wire opcodes (30_encoding R52). They are not block requests: nothing of the block changes and
no response is given. What the spec gives them at the protocol level is the one in-flight transaction (70 R119), the
reply words and the delay of the ROM; what the sensor does inside is left out (00_scope R4; log 10). -/

namespace Sys2Proof.Machine

/-- IAQ_INIT on the bus (30_encoding R52, 41_framer R93, 70_reset_and_hazards R119). -/
def execSensorIaqInit (s : State) : Result := openTransaction .iaqInit s

/-- MEASURE_IAQ on the bus (30_encoding R52, 41_framer R93, 70_reset_and_hazards R119). -/
def execSensorMeasureIaq (s : State) : Result := openTransaction .measureIaq s

/-- GET_IAQ_BASELINE on the bus (30_encoding R52, 41_framer R93, 70_reset_and_hazards R119). -/
def execSensorGetIaqBaseline (s : State) : Result := openTransaction .getIaqBaseline s

/-- SET_IAQ_BASELINE on the bus (30_encoding R52, 41_framer R93, 70_reset_and_hazards R119). -/
def execSensorSetIaqBaseline (s : State) : Result := openTransaction .setIaqBaseline s

/-- GET_SERIAL_ID on the bus (30_encoding R52, 41_framer R93, 70_reset_and_hazards R119). -/
def execSensorGetSerialId (s : State) : Result := openTransaction .getSerialId s

/-- GET_FEATURESET on the bus (30_encoding R52, 41_framer R93, 70_reset_and_hazards R119). -/
def execSensorGetFeatureset (s : State) : Result := openTransaction .getFeatureset s

end Sys2Proof.Machine
end

