-- ==== Sys2Proof/Machine/Dispatch.lean ====
section
/-! DEFINITION. One arm per instruction: its meaning. -/

namespace Sys2Proof.Machine

def exec (i : Instr) (s : State) : Host.Outcome State Fault Refusal :=
  match i with
  | .nop => Sys2Proof.Machine.execNop s
  | .crcInit => Sys2Proof.Machine.execCrcInit s
  | .crcByte b => Sys2Proof.Machine.execCrcByte b s
  | .crcBit d => Sys2Proof.Machine.execCrcBit d s
  | .frEncw w => Sys2Proof.Machine.execFrEncw w s
  | .frDecw t0 t1 t2 => Sys2Proof.Machine.execFrDecw t0 t1 t2 s
  | .frEncIaqInit => Sys2Proof.Machine.execFrEncIaqInit s
  | .frEncMeasureIaq => Sys2Proof.Machine.execFrEncMeasureIaq s
  | .frEncGetIaqBaseline => Sys2Proof.Machine.execFrEncGetIaqBaseline s
  | .frEncSetIaqBaseline co2 tvoc => Sys2Proof.Machine.execFrEncSetIaqBaseline co2 tvoc s
  | .frEncGetSerialId => Sys2Proof.Machine.execFrEncGetSerialId s
  | .frEncGetFeatureset => Sys2Proof.Machine.execFrEncGetFeatureset s
  | .frDecIaqInit => Sys2Proof.Machine.execFrDecIaqInit s
  | .frDecMeasureIaq r => Sys2Proof.Machine.execFrDecMeasureIaq r s
  | .frDecGetIaqBaseline r => Sys2Proof.Machine.execFrDecGetIaqBaseline r s
  | .frDecSetIaqBaseline => Sys2Proof.Machine.execFrDecSetIaqBaseline s
  | .frDecGetSerialId r => Sys2Proof.Machine.execFrDecGetSerialId r s
  | .frDecGetFeatureset r => Sys2Proof.Machine.execFrDecGetFeatureset r s
  | .frChkfs w => Sys2Proof.Machine.execFrChkfs w s
  | .reservedOp9 => Sys2Proof.Machine.execReservedOp9 s
  | .reservedOpA => Sys2Proof.Machine.execReservedOpA s
  | .reservedOpB => Sys2Proof.Machine.execReservedOpB s
  | .reservedOpC => Sys2Proof.Machine.execReservedOpC s
  | .reservedOpD => Sys2Proof.Machine.execReservedOpD s
  | .reservedOpE => Sys2Proof.Machine.execReservedOpE s
  | .reservedOpF => Sys2Proof.Machine.execReservedOpF s
  | .reservedEncSel6 => Sys2Proof.Machine.execReservedEncSel6 s
  | .reservedEncSel7 => Sys2Proof.Machine.execReservedEncSel7 s
  | .reservedEncSel8 => Sys2Proof.Machine.execReservedEncSel8 s
  | .reservedEncSel9 => Sys2Proof.Machine.execReservedEncSel9 s
  | .reservedEncSel10 => Sys2Proof.Machine.execReservedEncSel10 s
  | .reservedEncSel11 => Sys2Proof.Machine.execReservedEncSel11 s
  | .reservedEncSel12 => Sys2Proof.Machine.execReservedEncSel12 s
  | .reservedEncSel13 => Sys2Proof.Machine.execReservedEncSel13 s
  | .reservedEncSel14 => Sys2Proof.Machine.execReservedEncSel14 s
  | .reservedEncSel15 => Sys2Proof.Machine.execReservedEncSel15 s
  | .reservedDecSel6 => Sys2Proof.Machine.execReservedDecSel6 s
  | .reservedDecSel7 => Sys2Proof.Machine.execReservedDecSel7 s
  | .reservedDecSel8 => Sys2Proof.Machine.execReservedDecSel8 s
  | .reservedDecSel9 => Sys2Proof.Machine.execReservedDecSel9 s
  | .reservedDecSel10 => Sys2Proof.Machine.execReservedDecSel10 s
  | .reservedDecSel11 => Sys2Proof.Machine.execReservedDecSel11 s
  | .reservedDecSel12 => Sys2Proof.Machine.execReservedDecSel12 s
  | .reservedDecSel13 => Sys2Proof.Machine.execReservedDecSel13 s
  | .reservedDecSel14 => Sys2Proof.Machine.execReservedDecSel14 s
  | .reservedDecSel15 => Sys2Proof.Machine.execReservedDecSel15 s
  | .sensorIaqInit => Sys2Proof.Machine.execSensorIaqInit s
  | .sensorMeasureIaq => Sys2Proof.Machine.execSensorMeasureIaq s
  | .sensorGetIaqBaseline => Sys2Proof.Machine.execSensorGetIaqBaseline s
  | .sensorSetIaqBaseline => Sys2Proof.Machine.execSensorSetIaqBaseline s
  | .sensorGetSerialId => Sys2Proof.Machine.execSensorGetSerialId s
  | .sensorGetFeatureset => Sys2Proof.Machine.execSensorGetFeatureset s

end Sys2Proof.Machine
end

