-- ==== Sys2Proof/Machine/Events.lean ====
section
/-! DEFINITION. What one step does with the host's next event: the request port, the clock, reset and the bus. -/

namespace Sys2Proof.Machine

/-- Decode what the host hands over and execute it. A wire word that the decoder rejects is bad input to the sensor and
does not stop the block (93 I9; log 12). -/
def runFetched (f : Fetched) (s : State) : Result :=
  match decode f with
  | .ok i => exec i s
  | .error (.unknownCommand _) => badInput s

/-- Accept a request at a clock edge: a SERIAL build starts a CRC.BYTE and serves every other request in that cycle; a
PARALLEL build serves every request in that cycle (10_state R30, 70_reset_and_hazards R117). `s` is the state after
acceptance. -/
def acceptAtEdge (w : Request) (s : State) : Result :=
  match s.build.crcImpl, decodeRequest w with
  | .serial, .crcByte b => .next (startByte b s)
  | _, i => exec i s

/-- One rising clock edge: reset wins; a byte in progress advances and the port is not ready; else a valid request is
accepted (10_state R30, R33; 70 R111, R112, R117). -/
def clockEdge (p : Pins) (rest : List Event) (s : State) : Result :=
  if p.rst then .next (takeReset { s with inbox := rest })
  else if s.inProgress then .next (advanceByte { s with inbox := rest })
  else if p.reqValid then acceptAtEdge p.req (accept rest s)
  else .next (idle { s with inbox := rest })

/-- One step. Reset and clock edges act at once. While a SERIAL CRC.BYTE is in progress every other event is held, not
lost, and the byte advances by itself (10_state R30, 70_reset_and_hazards R117; log 4). -/
def serveEvent (s : State) : Result :=
  match s.inbox with
  | .reset :: rest => .next (takeReset { s with inbox := rest })
  | .clock p :: rest => clockEdge p rest s
  | .request w :: rest => if s.inProgress then .next (advanceByte s) else runFetched (.request w) (accept rest s)
  | .command k :: rest => if s.inProgress then .next (advanceByte s) else runFetched (.command k) (accept rest s)
  | .finish ms :: rest => if s.inProgress then .next (advanceByte s) else endTransaction ms (accept rest s)
  | .abandon :: rest => if s.inProgress then .next (advanceByte s) else abandonTransaction (accept rest s)
  | .constructed :: rest => if s.inProgress then .next (advanceByte s) else renewHandle (accept rest s)
  | [] => if s.inProgress then .next (advanceByte s) else .next (idle s)

/-- The event that hands a fetched word over. -/
def eventOfFetched : Fetched → Event
  | .request w => .request w
  | .command k => .command k

/-- `s` with this word as the next thing the host hands over, and no byte in progress that would hold it back (log 1). -/
def presentFetched (f : Fetched) (s : State) : State :=
  { s with inbox := eventOfFetched f :: s.inbox, serialCount := 0#3, serialByte := 0#8, serialReg := 0#8 }

/-- A table word placed for the next step; a number no word of the table's formats has leaves the state as it is
(log 16). -/
def presentTableWord (nbits w : Nat) (s : State) : State :=
  match fetchedOfTableWord nbits w with
  | some f => presentFetched f s
  | none => s

end Sys2Proof.Machine
end

