-- ==== Sys2Proof/Machine/Step.lean ====
section
/-! DEFINITION. One step of the machine, and how an instruction is placed for the next step. -/

namespace Sys2Proof.Machine

/-- One step: the host's next event is served (00_scope R14). -/
def step (s : State) : Host.Outcome State Fault Refusal := serveEvent s

/-- `s` with a table word presented as the host's next event, so that the next step runs it (log 1, log 16). -/
def State.withFetchWord (s : State) (nbits w : Nat) : State := presentTableWord nbits w s

end Sys2Proof.Machine
end

