-- ==== Sys2Proof/Machine/Assembler.lean ====
section
/-! DEFINITION. Request assembly (30_encoding R59) and the pseudo-instructions with their expansions (R60). -/

namespace Sys2Proof.Machine

/-- `fr.enc NAME`; with no operands written, `data` is 0 (30_encoding R59; log 17). -/
def encInstr (c : Selector) (co2 tvoc : Word16) : Instr :=
  match c with
  | .iaqInit => .frEncIaqInit
  | .measureIaq => .frEncMeasureIaq
  | .getIaqBaseline => .frEncGetIaqBaseline
  | .setIaqBaseline => .frEncSetIaqBaseline co2 tvoc
  | .getSerialId => .frEncGetSerialId
  | .getFeatureset => .frEncGetFeatureset

/-- `fr.dec NAME, R0, …` (30_encoding R59). -/
def decInstr (c : Selector) (r : List Byte) : Instr :=
  match c with
  | .iaqInit => .frDecIaqInit
  | .measureIaq => .frDecMeasureIaq r
  | .getIaqBaseline => .frDecGetIaqBaseline r
  | .setIaqBaseline => .frDecSetIaqBaseline
  | .getSerialId => .frDecGetSerialId r
  | .getFeatureset => .frDecGetFeatureset r

/-- The eight CRC.BITs of a byte, most significant first (30_encoding R60). -/
def bitInstrs (b : Byte) : List Instr := (List.range 8).map (fun k => .crcBit (bitMsbFirst b k))

/-- The instructions of a line whose operands are in range (30_encoding R59, R60). -/
def expandLine : AsmLine → List Instr
  | .nop => [.nop]
  | .crcInit => [.crcInit]
  | .crcByte b => [.crcByte (BitVec.ofNat 8 b)]
  | .crcBit d => [.crcBit (BitVec.ofNat 1 d)]
  | .frEncw w => [.frEncw (BitVec.ofNat 16 w)]
  | .frDecw t0 t1 t2 => [.frDecw (BitVec.ofNat 8 t0) (BitVec.ofNat 8 t1) (BitVec.ofNat 8 t2)]
  | .frEnc c => [encInstr c 0#16 0#16]
  | .frEncSetBaseline co2 tvoc => [.frEncSetIaqBaseline (BitVec.ofNat 16 co2) (BitVec.ofNat 16 tvoc)]
  | .frDec c r => [decInstr c (r.map (BitVec.ofNat 8))]
  | .frChkfs w => [.frChkfs (BitVec.ofNat 16 w)]
  | .crcCalc bs => .crcInit :: bs.map (fun b => .crcByte (BitVec.ofNat 8 b))
  | .crcWord w => [.crcByte (hi (BitVec.ofNat 16 w)), .crcByte (lo (BitVec.ofNat 16 w))]
  | .crcBits8 b => bitInstrs (BitVec.ofNat 8 b)

/-- A line's requests; an operand out of range is an assembly error (30_encoding R59). -/
def assemble (l : AsmLine) : Option (List Fetched) :=
  if l.wellFormed then some ((expandLine l).map encode) else none

end Sys2Proof.Machine
end

