-- ==== Sys2Proof/Machine/Driver.lean ====
section
/-! DEFINITION. The host's routines over the block: the transaction of 70_reset_and_hazards R121 and the construction
sequence of R122. They are host behaviour (10_state R29, 00_scope R4): the block's step does not use this file. What the
transport answers is an argument, so the sensor's bytes are any bytes (93 I9; log 18). -/

namespace Sys2Proof.Machine

/-- A call of the transport (00_scope R15). -/
inductive BusAction where
  | write (addr : BitVec 7) (bytes : List Byte)
  | sleep (ms : Nat)
  | read (addr : BitVec 7) (count : Nat)
deriving DecidableEq, Repr

/-- What a transport read can do: give bytes, any of them (93 I9); fail (60_exceptions R101 (d)); or never return, since
"No timeouts are applied to the bus read itself" (70_reset_and_hazards R124; 93 I10). -/
inductive ReadAnswer where
  | bytes (r : List Byte)
  | failed
  | never
deriving DecidableEq, Repr

/-- What the transport answers in one transaction: whether the write is acknowledged, and what the read does. -/
structure Transport where
  writeOk : Bool
  reply : ReadAnswer
deriving DecidableEq, Repr

/-- Where a host routine gets to: a value, an error kind, or an infinite wait in a read that never returns
(70_reset_and_hazards R121, R124). -/
inductive HostEnd (α : Type) where
  | ok (a : α)
  | error (e : Status)
  | hang
deriving DecidableEq, Repr

/-- A run of a host routine: where it gets to, the transport calls it made, and the block's state. In a run that hangs
the last call is the read that never returns, and the state is the one the block is left in. -/
structure HostRun (α : Type) where
  result : HostEnd α
  bus : List BusAction
  state : State

/-- Issue one request and take its response; nothing when the block gives none. -/
def issue (i : Instr) (s : State) : Option (Response × State) :=
  match exec i s with
  | .next t => t.resp.map (fun r => (r, t))
  | .fault _ => none
  | .refused _ => none

/-- The valid bytes of a response (30_encoding R55, 41_framer R90). -/
def validBytes (r : Response) : List Byte := takeBytes r.len.toNat r.payload

/-- Big-endian words of a byte sequence (20_memory R37). -/
def wordsOf : List Byte → List Word16
  | h :: l :: rest => word h l :: wordsOf rest
  | _ => []

/-- Steps 5 to 7 of R121, after the delay: read, decode, return the words. A short read is a transport error (41_framer
R84); a read that never returns is never left (70_reset_and_hazards R124). -/
def finishCommand (c : Selector) (rxw : Nat) (addr : BitVec 7) (x : Transport) (bus : List BusAction) (s : State) :
    Option (HostRun (List Word16)) :=
  if rxw = 0 then some ⟨.ok [], bus, s⟩
  else
    let bus := bus ++ [.read addr (3 * rxw)]
    match x.reply with
    | .failed => some ⟨.error .transportError, bus, s⟩
    | .never => some ⟨.hang, bus, s⟩
    | .bytes bytes =>
      if bytes.length = 3 * rxw then
        (issue (decInstr c bytes) s).map fun (r, t) =>
          if r.status = .ok then ⟨.ok (wordsOf (validBytes r)), bus, t⟩ else ⟨.error r.status, bus, t⟩
      else some ⟨.error .transportError, bus, s⟩

/-- `run_command` in block terms (70_reset_and_hazards R121). -/
def runCommand (c : Selector) (co2 tvoc : Word16) (x : Transport) (s : State) : Option (HostRun (List Word16)) :=
  match issue (encInstr c co2 tvoc) s with
  | none => none
  | some (r, t) =>
    if r.status = .ok then
      if x.writeOk then
        finishCommand c r.rxw.toNat r.addr x [.write r.addr (validBytes r), .sleep r.delayMs.toNat] t
      else some ⟨.error .transportError, [.write r.addr (validBytes r)], t⟩
    else some ⟨.error r.status, [], t⟩

/-- The driver's handle: state the spec gives the driver and not the block (10_state R29). -/
structure Handle where
  /-- "fixed at construction". -/
  addr : BitVec 7
  /-- "set exactly once during construction and never reset". -/
  verified : Bool
  /-- `{w0, w1, w2}`, most significant word first (41_framer R92). -/
  serialNumber : BitVec 48
deriving DecidableEq, Repr

/-- The serial number of three words (20_memory R39). -/
def serialOf : List Word16 → BitVec 48
  | [w0, w1, w2] => w0 ++ w1 ++ w2
  | _ => 0#48

/-- Step 3 of R122: IAQ initialisation, whose failure fails construction. -/
def initialiseIaq (serial : BitVec 48) (x : Transport) (bus : List BusAction) (s : State) : Option (HostRun Handle) :=
  (runCommand .iaqInit 0#16 0#16 x s).map fun m =>
    match m.result with
    | .error e => ⟨.error e, bus ++ m.bus, m.state⟩
    | .hang => ⟨.hang, bus ++ m.bus, m.state⟩
    | .ok _ => ⟨.ok ⟨s.build.devAddr, true, serial⟩, bus ++ m.bus, m.state⟩

/-- The end of step 2 of R122: the identity check on the feature-set word. -/
def checkFeatureset (w : Word16) (serial : BitVec 48) (x : Transport) (bus : List BusAction) (s : State) :
    Option (HostRun Handle) :=
  match issue (.frChkfs w) s with
  | none => none
  | some (r, t) => if r.status = .ok then initialiseIaq serial x bus t else some ⟨.error r.status, bus, t⟩

/-- Step 2 of R122: read the feature-set word and check it (41_framer R94). -/
def identify (serial : BitVec 48) (x2 x3 : Transport) (bus : List BusAction) (s : State) : Option (HostRun Handle) :=
  match runCommand .getFeatureset 0#16 0#16 x2 s with
  | none => none
  | some m =>
    match m.result with
    | .error e => some ⟨.error e, bus ++ m.bus, m.state⟩
    | .hang => some ⟨.hang, bus ++ m.bus, m.state⟩
    | .ok [w] => checkFeatureset w serial x3 (bus ++ m.bus) m.state
    | .ok _ => none

/-- The construction sequence: serial number, identity, IAQ initialisation; it fails at the first error and then gives
no handle (70_reset_and_hazards R122, 60_exceptions R101 (a), (b)). -/
def construct (x1 x2 x3 : Transport) (s : State) : Option (HostRun Handle) :=
  match runCommand .getSerialId 0#16 0#16 x1 s with
  | none => none
  | some m =>
    match m.result with
    | .error e => some ⟨.error e, m.bus, m.state⟩
    | .hang => some ⟨.hang, m.bus, m.state⟩
    | .ok ws => identify (serialOf ws) x2 x3 m.bus m.state

/-- "CO2-equivalent reading = first element" (41_framer R91). -/
def co2Equivalent (ws : List Word16) : Option Word16 := ws[0]?

/-- "total-VOC reading = second element" (41_framer R91). -/
def tvocReading (ws : List Word16) : Option Word16 := ws[1]?

end Sys2Proof.Machine
end

