-- ==== Sys2Proof/Machine/Stream.lean ====
section
/-! DEFINITION. Sequences of requests, as the host issues them: running a list of instructions, and which byte sequence a
stream of requests carries (40_crc R74, 30_encoding R60). -/

namespace Sys2Proof.Machine

/-- Execute instructions one after another, each seeing the state the previous one left (20_memory R44). -/
def runInstrs : List Instr → State → Result
  | [], s => .next s
  | i :: is, s =>
    match exec i s with
    | .next t => runInstrs is t
    | .fault r => .fault r
    | .refused r => .refused r

/-- The three requests that write `crc` (10_state R21). -/
def writesCrc : Instr → Bool
  | .crcInit => true
  | .crcByte _ => true
  | .crcBit _ => true
  | .nop | .frEncw _ | .frDecw _ _ _
  | .frEncIaqInit | .frEncMeasureIaq | .frEncGetIaqBaseline | .frEncSetIaqBaseline _ _ | .frEncGetSerialId
  | .frEncGetFeatureset
  | .frDecIaqInit | .frDecMeasureIaq _ | .frDecGetIaqBaseline _ | .frDecSetIaqBaseline | .frDecGetSerialId _
  | .frDecGetFeatureset _ | .frChkfs _
  | .reservedOp9 | .reservedOpA | .reservedOpB | .reservedOpC | .reservedOpD | .reservedOpE | .reservedOpF
  | .reservedEncSel6 | .reservedEncSel7 | .reservedEncSel8 | .reservedEncSel9 | .reservedEncSel10
  | .reservedEncSel11 | .reservedEncSel12 | .reservedEncSel13 | .reservedEncSel14 | .reservedEncSel15
  | .reservedDecSel6 | .reservedDecSel7 | .reservedDecSel8 | .reservedDecSel9 | .reservedDecSel10
  | .reservedDecSel11 | .reservedDecSel12 | .reservedDecSel13 | .reservedDecSel14 | .reservedDecSel15
  | .sensorIaqInit | .sensorMeasureIaq | .sensorGetIaqBaseline | .sensorSetIaqBaseline | .sensorGetSerialId
  | .sensorGetFeatureset => false

/-- A stream of requests carries a byte sequence: CRC.BYTE requests, or for a byte its eight CRC.BIT requests most
significant bit first, with NOP, FRM and any other requests that do not write `crc` between them (40_crc R74). -/
inductive Carries : List Request → List Byte → Prop where
  | done : Carries [] []
  | byte {w : Request} {b : Byte} {ws : List Request} {bs : List Byte} (h : decodeRequest w = .crcByte b)
      (rest : Carries ws bs) : Carries (w :: ws) (b :: bs)
  | bits {vs : List Request} {b : Byte} {ws : List Request} {bs : List Byte}
      (h : (vs.map decodeRequest).filter writesCrc = bitInstrs b) (rest : Carries ws bs) :
      Carries (vs ++ ws) (b :: bs)
  | quiet {w : Request} {ws : List Request} {bs : List Byte} (h : writesCrc (decodeRequest w) = false)
      (rest : Carries ws bs) : Carries (w :: ws) bs

end Sys2Proof.Machine
end

