-- ==== Sys2Proof/Safety.lean ====
section
/-! DEFINITION. What a safe state and a safe run are: the invariant every step keeps, and the host's obligations towards
the bus, which the block does not check. -/

namespace Sys2Proof.Machine

/-- Every bit of the payload below its `len` valid bytes is 0 (30_encoding R55, 20_memory R41). -/
def payloadPadded (r : Response) : Bool := r.payload <<< (8 * r.len.toNat) == 0#72

/-- A response the block can give: not the host's status 4 (60_exceptions R96); all other fields 0 when the status is
not OK (R97); at most 9 bytes, zero below them (30_encoding R55). -/
def legalResponse (r : Response) : Bool :=
  r.status != .transportError
    && (r.status == .ok || r == bareResponse r.status r.crc)
    && r.len.toNat ≤ 9 && payloadPadded r

/-- The response port: what it shows is legal and reports the register as it is (30_encoding R55). -/
def portInv (s : State) : Bool :=
  match s.resp with
  | none => true
  | some r => legalResponse r && r.crc == s.crc

/-- The hidden serial state: a byte is in progress only in a SERIAL build, out of reset and with no response shown, and
the intermediate register is what the bits fed so far give; when none is in progress nothing is left behind
(10_state R27, R30, R34). -/
def serialInv (s : State) : Bool :=
  if s.inProgress then
    s.build.crcImpl == .serial && !s.rst && s.resp.isNone
      && s.serialReg == feedBits s.crc s.serialByte s.serialCount.toNat
  else s.serialByte == 0#8 && s.serialReg == 0#8

/-- During reset the register is 0xFF, no byte is in progress and no response is shown (70_reset_and_hazards R111). -/
def resetInv (s : State) : Bool := !s.rst || (s.crc == crcInit && !s.inProgress && s.resp.isNone)

/-- The invariant of the machine. -/
def State.inv (s : State) : Bool := portInv s && serialInv s && resetInv s

/-- The host keeps its obligations with its next event: a command only when none is under way (70_reset_and_hazards
R119) and only one of the six (30_encoding R57; log 12), the end of a transaction only after the command's delay (R120),
and none given up (R123). Events held behind a byte in progress are judged when their turn comes. -/
def hostObeys (s : State) : Bool :=
  match s.inbox with
  | .command k :: _ => s.inProgress || ((decodeCommand k).isSome && s.slot.isNone)
  | .finish ms :: _ =>
    s.inProgress ||
      match s.slot with
      | some c => decide ((rom c).delayMs ≤ ms)
      | none => true
  | .abandon :: _ => s.inProgress || s.slot.isNone
  | .constructed :: _ => true
  | .reset :: _ => true
  | .clock _ :: _ => true
  | .request _ :: _ => true
  | [] => true

end Sys2Proof.Machine
end

