-- ==== Sys2Proof/Certificates/Slice0/Obligations.lean ====
section
/-! DEFINITION. The statements for the provers. Each docstring names the rule of spec/ it formalises. Values are written out
from the spec's tables where a rule gives them, so that the model's own tables are held against them. -/

open Sys2Proof Sys2Proof.Machine

/-! ### Encoding -/

/-- Every well-formed instruction, with every operand, is read back from its own word (30_encoding R46 to R52). -/
def Obligations.DecodeOfEncode : Prop :=
  ∀ i : Instr, i.wellFormed = true → decode (encode i) = .ok i

/-- Every 80-bit value selects exactly one REQ80 row of the opcode table, and it is the row of the instruction the
decoder reads (INDEX.md, "exactly one `REQ80` row matches every 80-bit value"). -/
def Obligations.EveryRequestSelectsItsRowAlone : Prop :=
  ∀ w : Request, (requestRows.filter (fun row => row.selects w)).map (fun row => row.mnemonic)
    = [(decodeRequest w).mnemonic]

/-- The operand forms of `data`, per op, and the bits each op reads (30_encoding R49): the right sides name only the
bits read, so requests that differ elsewhere decode alike. -/
def Obligations.OperandFormsOfEveryOp : Prop :=
  ∀ (sel : BitVec 4) (d : Field72),
    decodeRequest (mkRequest 0x0#4 sel d) = .nop ∧
    decodeRequest (mkRequest 0x1#4 sel d) = .crcInit ∧
    decodeRequest (mkRequest 0x2#4 sel d) = .crcByte (d.extractLsb' 0 8) ∧
    decodeRequest (mkRequest 0x3#4 sel d) = .crcBit (d.extractLsb' 0 1) ∧
    decodeRequest (mkRequest 0x4#4 sel d) = .frEncw (d.extractLsb' 0 16) ∧
    decodeRequest (mkRequest 0x5#4 sel d) =
      .frDecw (d.extractLsb' 64 8) (d.extractLsb' 56 8) (d.extractLsb' 48 8) ∧
    decodeRequest (mkRequest 0x6#4 0#4 d) = .frEncIaqInit ∧
    decodeRequest (mkRequest 0x6#4 1#4 d) = .frEncMeasureIaq ∧
    decodeRequest (mkRequest 0x6#4 2#4 d) = .frEncGetIaqBaseline ∧
    decodeRequest (mkRequest 0x6#4 3#4 d) = .frEncSetIaqBaseline (d.extractLsb' 16 16) (d.extractLsb' 0 16) ∧
    decodeRequest (mkRequest 0x6#4 4#4 d) = .frEncGetSerialId ∧
    decodeRequest (mkRequest 0x6#4 5#4 d) = .frEncGetFeatureset ∧
    decodeRequest (mkRequest 0x7#4 0#4 d) = .frDecIaqInit ∧
    decodeRequest (mkRequest 0x7#4 1#4 d) =
      .frDecMeasureIaq [d.extractLsb' 64 8, d.extractLsb' 56 8, d.extractLsb' 48 8,
        d.extractLsb' 40 8, d.extractLsb' 32 8, d.extractLsb' 24 8] ∧
    decodeRequest (mkRequest 0x7#4 2#4 d) =
      .frDecGetIaqBaseline [d.extractLsb' 64 8, d.extractLsb' 56 8, d.extractLsb' 48 8,
        d.extractLsb' 40 8, d.extractLsb' 32 8, d.extractLsb' 24 8] ∧
    decodeRequest (mkRequest 0x7#4 3#4 d) = .frDecSetIaqBaseline ∧
    decodeRequest (mkRequest 0x7#4 4#4 d) =
      .frDecGetSerialId [d.extractLsb' 64 8, d.extractLsb' 56 8, d.extractLsb' 48 8, d.extractLsb' 40 8,
        d.extractLsb' 32 8, d.extractLsb' 24 8, d.extractLsb' 16 8, d.extractLsb' 8 8, d.extractLsb' 0 8] ∧
    decodeRequest (mkRequest 0x7#4 5#4 d) =
      .frDecGetFeatureset [d.extractLsb' 64 8, d.extractLsb' 56 8, d.extractLsb' 48 8] ∧
    decodeRequest (mkRequest 0x8#4 sel d) = .frChkfs (d.extractLsb' 0 16)

/-- Only FR.ENC and FR.DEC read `sel`; on every other op a request with any `sel` behaves exactly as with `sel = 0`
(30_encoding R48): the next step is the same, whatever the state. The selectors 6 to 15 of FR.ENC and FR.DEC are the
reserved ones (R57). -/
def Obligations.SelIsIgnoredByEveryOtherOp : Prop :=
  (∀ (op sel : BitVec 4) (d : Field72) (s : State), op ≠ 0x6#4 → op ≠ 0x7#4 →
    runFetched (.request (mkRequest op sel d)) s = runFetched (.request (mkRequest op 0#4 d)) s) ∧
  (∀ (c : Selector) (d : Field72),
    decodeRequest (mkRequest 0x6#4 (selIndex c) d) = encInstr c (d.extractLsb' 16 16) (d.extractLsb' 0 16) ∧
    decodeRequest (mkRequest 0x7#4 (selIndex c) d) = decInstr c (takeBytes (3 * (rom c).replyWords) d)) ∧
  (∀ (op sel : BitVec 4) (d : Field72) (s : State), op = 0x6#4 ∨ op = 0x7#4 → 6 ≤ sel.toNat →
    runFetched (.request (mkRequest op sel d)) s
      = .next { s with resp := some ⟨.illegalOp, s.crc, 0#4, 0#72, 0#2, 0#8, 0#7⟩ })

/-- Whatever the decoder reads is well-formed, and it is a request exactly when it was read from a request word. -/
def Obligations.DecodedInstructionsAreWellFormed : Prop :=
  (∀ w : Request, (decodeRequest w).wellFormed = true ∧ (decodeRequest w).isRequest = true) ∧
  (∀ (k : Word16) (i : Instr), decodeCommand k = some i → i.wellFormed = true ∧ i.isRequest = false)

/-- A few words written out from 30_encoding R50 and R52, one per family (sanity). -/
def Obligations.WordsOfEachFamilyDecode : Prop :=
  decodeTableWord 80 0x200000000000000000BE = some (.crcByte 0xBE#8) ∧
  decodeTableWord 80 0x50BEEF92000000000000 = some (.frDecw 0xBE#8 0xEF#8 0x92#8) ∧
  decodeTableWord 80 0x63000000000012345555 = some (.frEncSetIaqBaseline 0x1234#16 0x5555#16) ∧
  decodeTableWord 80 0x75002007000000000000 = some (.frDecGetFeatureset [0x00#8, 0x20#8, 0x07#8]) ∧
  decodeTableWord 80 0x9F000000000000000000 = some .reservedOp9 ∧
  decodeTableWord 80 0x7C000000000000000000 = some .reservedDecSel12 ∧
  decodeTableWord 16 0x3682 = some .sensorGetSerialId ∧
  decodeTableWord 16 0x3683 = none

/-- A byte sequence of up to nine bytes in a 72-bit field: byte `i` at `F[71-8i : 64-8i]`, zero below (20_memory R41). -/
def Obligations.ByteSequencesAreLeftAligned : Prop :=
  ∀ bs : List Byte, bs.length ≤ 9 →
    (∀ i, i < bs.length → some ((packLeft bs).extractLsb' (64 - 8 * i) 8) = bs[i]?) ∧
    (packLeft bs).setWidth (72 - 8 * bs.length) = 0#(72 - 8 * bs.length)

/-- The 104-bit packed response (30_encoding R55) with the status codes of 60_exceptions R96. -/
def Obligations.PackedResponseFields : Prop :=
  (∀ r : Response,
    (packResponse r).extractLsb' 101 3 = r.status.code ∧ (packResponse r).extractLsb' 93 8 = r.crc ∧
    (packResponse r).extractLsb' 89 4 = r.len ∧ (packResponse r).extractLsb' 87 2 = r.rxw ∧
    (packResponse r).extractLsb' 79 8 = r.delayMs ∧ (packResponse r).extractLsb' 72 7 = r.addr ∧
    (packResponse r).extractLsb' 0 72 = r.payload) ∧
  Status.ok.code = 0#3 ∧ Status.checksumMismatch.code = 1#3 ∧ Status.invalidBaseline.code = 2#3 ∧
  Status.deviceNotDetected.code = 3#3 ∧ Status.transportError.code = 4#3 ∧ Status.illegalOp.code = 7#3 ∧
  statusOfCode 5#3 = none ∧ statusOfCode 6#3 = none ∧ ∀ st : Status, statusOfCode st.code = some st

/-- A packed response is read back as the record it was packed from, and back again; a packed word with a reserved status
code, 5 or 6, is a fault (30_encoding R55, 60_exceptions R96; 93 I6; log 13). -/
def Obligations.PackedResponseIsReadBack : Prop :=
  (∀ r : Response, unpackResponse (packResponse r) = .ok r) ∧
  (∀ (p : BitVec 104) (r : Response), unpackResponse p = .ok r → packResponse r = p) ∧
  (∀ p : BitVec 104, p.extractLsb' 101 3 = 5#3 ∨ p.extractLsb' 101 3 = 6#3 →
    unpackResponse p = .error (.reservedStatus (p.extractLsb' 101 3)))

/-- A source line of each row assembles exactly when its operands are in the row's range, and to the request the row gives,
with 0 in every ignored bit (30_encoding R59); a pseudo-instruction assembles to its expansion (R60). In every case the
words decode, in order, to the line's instructions. Two corners are the model's reading (log 17), not the spec's words:
`fr.enc set_iaq_baseline` without operands encodes `data = 0` as every `fr.enc NAME` does, and `crc.calc` with no byte is
an error. Its choice too (log 21): a `fr.dec` line of other than its 3N bytes does not assemble. -/
def Obligations.AssembledLinesDecodeToTheirExpansion : Prop :=
  assemble .nop = some [.request (mkRequest 0x0#4 0#4 0#72)] ∧
  assemble .crcInit = some [.request (mkRequest 0x1#4 0#4 0#72)] ∧
  (∀ b : Nat, assemble (.crcByte b) =
    if b < 256 then some [.request (mkRequest 0x2#4 0#4 (BitVec.ofNat 72 b))] else none) ∧
  (∀ d : Nat, assemble (.crcBit d) =
    if d < 2 then some [.request (mkRequest 0x3#4 0#4 (BitVec.ofNat 72 d))] else none) ∧
  (∀ w : Nat, assemble (.frEncw w) =
    if w < 65536 then some [.request (mkRequest 0x4#4 0#4 (BitVec.ofNat 72 w))] else none) ∧
  (∀ t0 t1 t2 : Nat, assemble (.frDecw t0 t1 t2) =
    if t0 < 256 ∧ t1 < 256 ∧ t2 < 256 then
      some [.request (mkRequest 0x5#4 0#4 (BitVec.ofNat 8 t0 ++ BitVec.ofNat 8 t1 ++ BitVec.ofNat 8 t2 ++ 0#48))]
    else none) ∧
  (∀ row ∈ [(Selector.iaqInit, 0#4, 0), (.measureIaq, 1#4, 2), (.getIaqBaseline, 2#4, 2), (.setIaqBaseline, 3#4, 0),
      (.getSerialId, 4#4, 3), (.getFeatureset, 5#4, 1)],
    assemble (.frEnc row.1) = some [.request (mkRequest 0x6#4 row.2.1 0#72)] ∧
    ∀ r : List Nat, assemble (.frDec row.1 r) =
      if r.length = 3 * row.2.2 ∧ ∀ x ∈ r, x < 256 then
        some [.request (mkRequest 0x7#4 row.2.1 (packLeft (r.map (BitVec.ofNat 8))))]
      else none) ∧
  (∀ co2 tvoc : Nat, assemble (.frEncSetBaseline co2 tvoc) =
    if co2 < 65536 ∧ tvoc < 65536 then
      some [.request (mkRequest 0x6#4 3#4 (0#40 ++ BitVec.ofNat 16 co2 ++ BitVec.ofNat 16 tvoc))]
    else none) ∧
  (∀ w : Nat, assemble (.frChkfs w) =
    if w < 65536 then some [.request (mkRequest 0x8#4 0#4 (BitVec.ofNat 72 w))] else none) ∧
  (∀ bs : List Nat, assemble (.crcCalc bs) =
    if bs ≠ [] ∧ ∀ b ∈ bs, b < 256 then
      some (.request (mkRequest 0x1#4 0#4 0#72) ::
        bs.map (fun b => .request (mkRequest 0x2#4 0#4 (BitVec.ofNat 72 b))))
    else none) ∧
  (∀ w : Nat, assemble (.crcWord w) =
    if w < 65536 then
      some [.request (mkRequest 0x2#4 0#4 (BitVec.ofNat 72 (w / 256))),
        .request (mkRequest 0x2#4 0#4 (BitVec.ofNat 72 (w % 256)))]
    else none) ∧
  (∀ b : Nat, assemble (.crcBits8 b) =
    if b < 256 then
      some ([b / 128, b / 64, b / 32, b / 16, b / 8, b / 4, b / 2, b].map
        (fun n => .request (mkRequest 0x3#4 0#4 (BitVec.ofNat 72 (n % 2)))))
    else none) ∧
  (∀ (l : AsmLine) (fs : List Fetched), assemble l = some fs →
    fs.map decode = (expandLine l).map .ok ∧ ∀ i ∈ expandLine l, i.isRequest = true)

/-! ### The CRC functions -/

/-- `crc8([]) = 0xFF` and `crc8(s ++ [b]) = crc8_step(crc8(s), b)` (40_crc R63). -/
def Obligations.SequenceCrcFoldsBytes : Prop :=
  crc8 [] = 0xFF#8 ∧ ∀ (s : List Byte) (b : Byte), crc8 (s ++ [b]) = crc8Step (crc8 s) b

/-- The parallel next-state equations in `x = c ^ b`, and the table form `T[x] = crc8_step(0, x)` (40_crc R65). -/
def Obligations.ByteStepMeetsParallelEquations : Prop :=
  ∀ c b : Byte,
    let x := c ^^^ b
    let n := crc8Step c b
    n.getLsbD 0 = (x.getLsbD 0 ^^ x.getLsbD 3 ^^ x.getLsbD 4 ^^ x.getLsbD 6) ∧
    n.getLsbD 1 = (x.getLsbD 1 ^^ x.getLsbD 4 ^^ x.getLsbD 5 ^^ x.getLsbD 7) ∧
    n.getLsbD 2 = (x.getLsbD 2 ^^ x.getLsbD 5 ^^ x.getLsbD 6) ∧
    n.getLsbD 3 = (x.getLsbD 3 ^^ x.getLsbD 6 ^^ x.getLsbD 7) ∧
    n.getLsbD 4 = (x.getLsbD 0 ^^ x.getLsbD 3 ^^ x.getLsbD 6 ^^ x.getLsbD 7) ∧
    n.getLsbD 5 = (x.getLsbD 0 ^^ x.getLsbD 1 ^^ x.getLsbD 3 ^^ x.getLsbD 6 ^^ x.getLsbD 7) ∧
    n.getLsbD 6 = (x.getLsbD 1 ^^ x.getLsbD 2 ^^ x.getLsbD 4 ^^ x.getLsbD 7) ∧
    n.getLsbD 7 = (x.getLsbD 2 ^^ x.getLsbD 3 ^^ x.getLsbD 5) ∧
    n = crc8Step 0x00#8 x

/-- Eight bit steps, most significant bit first, equal one byte step (40_crc R66). -/
def Obligations.EightBitStepsEqualOneByteStep : Prop :=
  ∀ c b : Byte,
    crc8Step c b =
      crc8Bit (crc8Bit (crc8Bit (crc8Bit (crc8Bit (crc8Bit (crc8Bit (crc8Bit c
        (b.extractLsb' 7 1)) (b.extractLsb' 6 1)) (b.extractLsb' 5 1)) (b.extractLsb' 4 1))
        (b.extractLsb' 3 1)) (b.extractLsb' 2 1)) (b.extractLsb' 1 1)) (b.extractLsb' 0 1)

/-- The residue law (40_crc R72). -/
def Obligations.AppendedChecksumLeavesZero : Prop :=
  (∀ s : List Byte, crc8 (s ++ [crc8 s]) = 0x00#8) ∧
  (∀ c b : Byte, crc8Step c b = 0x00#8 ↔ b = c) ∧
  (Function.Bijective (crc8Step 0x00#8) ∧ crc8Step 0x00#8 0x00#8 = 0x00#8 ∧
    ∀ c b : Byte, crc8Step c b = crc8Step 0x00#8 (c ^^^ b)) ∧
  (∀ t0 t1 t2 : Byte, (decWord t0 t1 t2).1 = true ↔ crc8 [t0, t1, t2] = 0x00#8)

/-- The reference vector, with its intermediate value (40_crc R75). -/
def Obligations.ReferenceVectorHolds : Prop :=
  crc8 [0xBE#8, 0xEF#8] = 0x92#8 ∧ crc8Step 0xFF#8 0xBE#8 = 0x0C#8 ∧ crc8Step 0x0C#8 0xEF#8 = 0x92#8

/-- A zero byte leaves the register as it is for 0x00 and 0xEF only, and folding in its own value clears it (40_crc R69,
corner cases). -/
def Obligations.ZeroByteHasTwoFixedPoints : Prop :=
  (∀ c : Byte, crc8Step c 0x00#8 = c ↔ c = 0x00#8 ∨ c = 0xEF#8) ∧ ∀ c : Byte, crc8Step c c = 0x00#8

/-! ### NOP and CRCG: results, completion and frame -/

/-- NOP: status OK, `crc` reported, every other response field 0, `crc` unchanged (40_crc R71). -/
def Obligations.NopReportsTheRegister : Prop :=
  (∀ (sel : BitVec 4) (d : Field72), decodeRequest (mkRequest 0x0#4 sel d) = .nop) ∧
  ∀ s : State, exec .nop s = .next { s with resp := some ⟨.ok, s.crc, 0#4, 0#72, 0#2, 0#8, 0#7⟩ }

/-- CRC.INIT: `crc <- 0xFF`, reported, status OK, every other response field 0; idempotent (40_crc R68). -/
def Obligations.CrcInitLoadsInitialValue : Prop :=
  (∀ (sel : BitVec 4) (d : Field72), decodeRequest (mkRequest 0x1#4 sel d) = .crcInit) ∧
  (∀ s : State, exec .crcInit s =
    .next { s with crc := 0xFF#8, resp := some ⟨.ok, 0xFF#8, 0#4, 0#72, 0#2, 0#8, 0#7⟩ }) ∧
  (∀ s t : State, exec .crcInit s = .next t → exec .crcInit t = .next t)

/-- CRC.BYTE: `crc <- crc8_step(crc, b)`, the new value reported, status OK, every other response field 0 (40_crc R69,
pseudocode). -/
def Obligations.CrcByteFoldsOneByte : Prop :=
  ∀ (b : Byte) (s : State), exec (.crcByte b) s =
    .next { s with
      crc := crc8Step s.crc b, resp := some ⟨.ok, crc8Step s.crc b, 0#4, 0#72, 0#2, 0#8, 0#7⟩ }

/-- CRC.BIT: with `fb = c[7] ^ d`, the register is shifted left and 0x31 XORed in when `fb` is 1; the new value is
reported, status OK, every other response field 0 (40_crc R64, R70, pseudocode). -/
def Obligations.CrcBitFoldsOneBit : Prop :=
  ∀ (d : BitVec 1) (s : State) (v : Byte),
    v = (if (s.crc.getLsbD 7 ^^ d.getLsbD 0) = true then (s.crc <<< 1) ^^^ 0x31#8 else s.crc <<< 1) →
    exec (.crcBit d) s = .next { s with crc := v, resp := some ⟨.ok, v, 0#4, 0#72, 0#2, 0#8, 0#7⟩ }

/-- The streaming law (40_crc R74): from a register holding 0xFF (right after reset), or after a CRC.INIT, a stream that
carries a byte sequence, by CRC.BYTE or by CRC.BIT and with requests that do not write `crc` between, ends with the
sequence's CRC in the register; every request is answered and the host's later events are untouched. -/
def Obligations.StreamEndsWithSequenceCrc : Prop :=
  (∀ (s : State) (ws : List Request) (bs : List Byte) (later : List Event),
    Carries ws bs → s.inProgress = false → s.crc = 0xFF#8 → s.inbox = ws.map Event.request ++ later →
    ∃ t : State, Host.Core.run core ws.length s = .next t ∧ t.crc = crc8 bs ∧ t.inbox = later) ∧
  (∀ (s : State) (w : Request) (ws : List Request) (bs : List Byte) (later : List Event),
    decodeRequest w = .crcInit → Carries ws bs → s.inProgress = false →
    s.inbox = (w :: ws).map Event.request ++ later →
    ∃ t : State, Host.Core.run core (w :: ws).length s = .next t ∧ t.crc = crc8 bs ∧ t.inbox = later)

/-- The pseudo-instructions: after `crc.calc` the register holds the sequence's CRC; `crc.word` folds the two bytes, most
significant first; `crc.bits8` ends in the same state as `crc.byte` (30_encoding R60). -/
def Obligations.PseudoInstructionsCompute : Prop :=
  (∀ bs : List Nat, expandLine (.crcCalc bs) = .crcInit :: bs.map (fun b => .crcByte (BitVec.ofNat 8 b))) ∧
  (∀ w : Word16, expandLine (.crcWord w.toNat) =
    [.crcByte (w.extractLsb' 8 8), .crcByte (w.extractLsb' 0 8)]) ∧
  (∀ b : Byte, expandLine (.crcBits8 b.toNat) =
    [.crcBit (b.extractLsb' 7 1), .crcBit (b.extractLsb' 6 1), .crcBit (b.extractLsb' 5 1),
      .crcBit (b.extractLsb' 4 1), .crcBit (b.extractLsb' 3 1), .crcBit (b.extractLsb' 2 1),
      .crcBit (b.extractLsb' 1 1), .crcBit (b.extractLsb' 0 1)]) ∧
  (∀ (bs : List Nat) (s : State), ∃ t : State, runInstrs (expandLine (.crcCalc bs)) s = .next t ∧
    t.crc = crc8 (bs.map (BitVec.ofNat 8))) ∧
  (∀ (w : Word16) (s : State), ∃ t : State, runInstrs (expandLine (.crcWord w.toNat)) s = .next t ∧
    t.crc = crc8Step (crc8Step s.crc (w.extractLsb' 8 8)) (w.extractLsb' 0 8)) ∧
  (∀ (b : Byte) (s : State),
    runInstrs (expandLine (.crcBits8 b.toNat)) s = runInstrs (expandLine (.crcByte b.toNat)) s)

/-! ### FRM: results, completion and frame -/

/-- No FRM op, NOP or reserved request reads or writes the register or leaves anything behind: the response is a function
of the request and `DEV_ADDR` alone, but for the copy of `crc`, and the response port is all that changes (41_framer
R76, 10_state R28). Repeating the request gives the same response (20_memory R43). -/
def Obligations.FramerIsStateless : Prop :=
  ∀ (i : Instr) (addr : BitVec 7), i.isRequest = true → writesCrc i = false →
    ∃ r : Response, ∀ s : State, s.build.devAddr = addr →
      exec i s = .next { s with resp := some { r with crc := s.crc } }

/-- FR.ENCW: the operand is `data[15:0]`, the payload `enc_word(w)`, `len` 3, status OK, `crc` copied, `rxw`, `delay_ms` and
`addr` 0 (41_framer R77, R79). -/
def Obligations.EncodedWordIsATriple : Prop :=
  (∀ (sel : BitVec 4) (d : Field72), decodeRequest (mkRequest 0x4#4 sel d) = .frEncw (d.extractLsb' 0 16)) ∧
  ∀ (w : Word16) (s : State), exec (.frEncw w) s =
    .next { s with
      resp := some ⟨.ok, s.crc, 3#4, w ++ crc8 [w.extractLsb' 8 8, w.extractLsb' 0 8] ++ 0#48, 0#2, 0#8, 0#7⟩ }

/-- FR.DECW: a triple whose checksum matches gives its two data bytes, any other CHECKSUM_MISMATCH and no payload
(41_framer R78, R80; 60_exceptions R97). -/
def Obligations.TripleIsDecodedOrRefusedWhole : Prop :=
  ∀ (t0 t1 t2 : Byte) (s : State),
    (crc8 [t0, t1] = t2 → exec (.frDecw t0 t1 t2) s =
      .next { s with resp := some ⟨.ok, s.crc, 2#4, t0 ++ t1 ++ 0#56, 0#2, 0#8, 0#7⟩ }) ∧
    (crc8 [t0, t1] ≠ t2 → exec (.frDecw t0 t1 t2) s =
      .next { s with resp := some ⟨.checksumMismatch, s.crc, 0#4, 0#72, 0#2, 0#8, 0#7⟩ })

/-- The round-trip law (41_framer R87). -/
def Obligations.WordRoundTrip : Prop :=
  (∀ w : Word16, ∃ t0 t1 t2 : Byte, encWord w = [t0, t1, t2] ∧ decWord t0 t1 t2 = (true, w)) ∧
  (∀ (w : Word16) (s t : State) (r : Response), exec (.frEncw w) s = .next t → t.resp = some r →
    exec (.frDecw (byteAt r.payload 0) (byteAt r.payload 1) (byteAt r.payload 2)) t =
      .next { t with resp := some ⟨.ok, t.crc, 2#4, w ++ 0#56, 0#2, 0#8, 0#7⟩ })

/-- Flipping any one of the 24 bits of a valid triple is detected (41_framer R88). -/
def Obligations.EverySingleBitErrorIsDetected : Prop :=
  ∀ (w : Word16) (i : Nat), i < 24 →
    let v : BitVec 24 := (w ++ crc8 [w.extractLsb' 8 8, w.extractLsb' 0 8]) ^^^ (1#24 <<< i)
    (decWord (v.extractLsb' 16 8) (v.extractLsb' 8 8) (v.extractLsb' 0 8)).1 = false

/-- The command ROM as FR.ENC reports it, for each selector without payload: the sensor opcode, `len`, reply words, delay
and `DEV_ADDR` (30_encoding R52, 41_framer R81). -/
def Obligations.CommandFramesWithoutPayload : Prop :=
  ∀ s : State,
    exec .frEncIaqInit s =
      .next { s with resp := some ⟨.ok, s.crc, 2#4, 0x2003#16 ++ 0#56, 0#2, 10#8, s.build.devAddr⟩ } ∧
    exec .frEncMeasureIaq s =
      .next { s with resp := some ⟨.ok, s.crc, 2#4, 0x2008#16 ++ 0#56, 2#2, 50#8, s.build.devAddr⟩ } ∧
    exec .frEncGetIaqBaseline s =
      .next { s with resp := some ⟨.ok, s.crc, 2#4, 0x2015#16 ++ 0#56, 2#2, 10#8, s.build.devAddr⟩ } ∧
    exec .frEncGetSerialId s =
      .next { s with resp := some ⟨.ok, s.crc, 2#4, 0x3682#16 ++ 0#56, 3#2, 10#8, s.build.devAddr⟩ } ∧
    exec .frEncGetFeatureset s =
      .next { s with resp := some ⟨.ok, s.crc, 2#4, 0x202F#16 ++ 0#56, 1#2, 10#8, s.build.devAddr⟩ }

/-- SET_IAQ_BASELINE: the request carries `co2` in `data[31:16]` and `tvoc` in `data[15:0]`; the frame is
`[0x20, 0x1E] ++ enc_word(tvoc) ++ enc_word(co2)`, TVOC first, 8 bytes (41_framer R82). Exactly one zero word is legal. -/
def Obligations.SetBaselineSendsTvocFirst : Prop :=
  (∀ d : Field72,
    decodeRequest (mkRequest 0x6#4 3#4 d) = .frEncSetIaqBaseline (d.extractLsb' 16 16) (d.extractLsb' 0 16)) ∧
  ∀ (co2 tvoc : Word16) (s : State), ¬(co2 = 0#16 ∧ tvoc = 0#16) →
    exec (.frEncSetIaqBaseline co2 tvoc) s =
      .next { s with
        resp := some ⟨.ok, s.crc, 8#4,
          0x201E#16 ++ tvoc ++ crc8 [tvoc.extractLsb' 8 8, tvoc.extractLsb' 0 8]
            ++ co2 ++ crc8 [co2.extractLsb' 8 8, co2.extractLsb' 0 8] ++ 0#8,
          0#2, 10#8, s.build.devAddr⟩ }

/-- The invalid-baseline check: a zero pair completes with INVALID_BASELINE and `len = 0`, no frame is produced, and the
host's transaction makes no transport call at all; exactly one zero word is encoded (41_framer R83). -/
def Obligations.ZeroBaselineIsRejectedBeforeTheBus : Prop :=
  (∀ s : State, exec (.frEncSetIaqBaseline 0#16 0#16) s =
    .next { s with resp := some ⟨.invalidBaseline, s.crc, 0#4, 0#72, 0#2, 0#8, 0#7⟩ }) ∧
  (∀ (x : Transport) (s : State), ∃ m : HostRun (List Word16),
    runCommand .setIaqBaseline 0#16 0#16 x s = some m ∧ m.bus = [] ∧ m.result = .error .invalidBaseline) ∧
  (∀ (w : Word16) (s : State), w ≠ 0#16 → ∃ t u : State, ∃ r q : Response,
    exec (.frEncSetIaqBaseline 0#16 w) s = .next t ∧ t.resp = some r ∧ r.status = .ok ∧ r.len = 8#4 ∧
    exec (.frEncSetIaqBaseline w 0#16) s = .next u ∧ u.resp = some q ∧ q.status = .ok ∧ q.len = 8#4)

/-- A reply frame is decoded word by word: each checksum is taken over its own two bytes, all triples must pass or no word
comes out, bytes after the frame are ignored, and nothing ties a triple to its place, so a permuted frame of valid
triples passes and gives the permuted words (41_framer R84, R89; 30_encoding R53). -/
def Obligations.ReplyFrameIsCheckedTripleByTriple : Prop :=
  (∀ (ts : List (Byte × Byte × Byte)) (after : List Byte),
    decFrame ts.length (ts.flatMap (fun t => [t.1, t.2.1, t.2.2]) ++ after) =
      if ts.all (fun t => crc8 [t.1, t.2.1] == t.2.2) then some (ts.map (fun t => t.1 ++ t.2.1)) else none) ∧
  (∀ (ts us : List (Byte × Byte × Byte)) (ws : List Word16), List.Perm ts us →
    decFrame ts.length (ts.flatMap (fun t => [t.1, t.2.1, t.2.2])) = some ws →
    ∃ vs : List Word16, List.Perm ws vs ∧
      decFrame us.length (us.flatMap (fun t => [t.1, t.2.1, t.2.2])) = some vs)

/-- FR.DEC for the two selectors with two reply words: all or nothing (41_framer R84). -/
def Obligations.TwoWordRepliesAreAllOrNothing : Prop :=
  ∀ (r0 r1 r2 r3 r4 r5 : Byte) (s : State),
    (crc8 [r0, r1] = r2 ∧ crc8 [r3, r4] = r5 →
      exec (.frDecMeasureIaq [r0, r1, r2, r3, r4, r5]) s =
        .next { s with resp := some ⟨.ok, s.crc, 4#4, r0 ++ r1 ++ r3 ++ r4 ++ 0#40, 0#2, 0#8, 0#7⟩ } ∧
      exec (.frDecGetIaqBaseline [r0, r1, r2, r3, r4, r5]) s =
        .next { s with resp := some ⟨.ok, s.crc, 4#4, r0 ++ r1 ++ r3 ++ r4 ++ 0#40, 0#2, 0#8, 0#7⟩ }) ∧
    (¬(crc8 [r0, r1] = r2 ∧ crc8 [r3, r4] = r5) →
      exec (.frDecMeasureIaq [r0, r1, r2, r3, r4, r5]) s =
        .next { s with resp := some ⟨.checksumMismatch, s.crc, 0#4, 0#72, 0#2, 0#8, 0#7⟩ } ∧
      exec (.frDecGetIaqBaseline [r0, r1, r2, r3, r4, r5]) s =
        .next { s with resp := some ⟨.checksumMismatch, s.crc, 0#4, 0#72, 0#2, 0#8, 0#7⟩ })

/-- FR.DEC GET_SERIAL_ID and GET_FEATURESET: all or nothing (41_framer R84). -/
def Obligations.SerialAndFeaturesetRepliesAreAllOrNothing : Prop :=
  (∀ (r0 r1 r2 r3 r4 r5 r6 r7 r8 : Byte) (s : State),
    (crc8 [r0, r1] = r2 ∧ crc8 [r3, r4] = r5 ∧ crc8 [r6, r7] = r8 →
      exec (.frDecGetSerialId [r0, r1, r2, r3, r4, r5, r6, r7, r8]) s =
        .next { s with
          resp := some ⟨.ok, s.crc, 6#4, r0 ++ r1 ++ r3 ++ r4 ++ r6 ++ r7 ++ 0#24, 0#2, 0#8, 0#7⟩ }) ∧
    (¬(crc8 [r0, r1] = r2 ∧ crc8 [r3, r4] = r5 ∧ crc8 [r6, r7] = r8) →
      exec (.frDecGetSerialId [r0, r1, r2, r3, r4, r5, r6, r7, r8]) s =
        .next { s with resp := some ⟨.checksumMismatch, s.crc, 0#4, 0#72, 0#2, 0#8, 0#7⟩ })) ∧
  (∀ (r0 r1 r2 : Byte) (s : State),
    (crc8 [r0, r1] = r2 → exec (.frDecGetFeatureset [r0, r1, r2]) s =
      .next { s with resp := some ⟨.ok, s.crc, 2#4, r0 ++ r1 ++ 0#56, 0#2, 0#8, 0#7⟩ }) ∧
    (crc8 [r0, r1] ≠ r2 → exec (.frDecGetFeatureset [r0, r1, r2]) s =
      .next { s with resp := some ⟨.checksumMismatch, s.crc, 0#4, 0#72, 0#2, 0#8, 0#7⟩ }))

/-- The serial number: on OK, `resp.payload[71:24]` is `{w0, w1, w2}` (41_framer R92, 20_memory R39). -/
def Obligations.SerialNumberIsTheTopOfThePayload : Prop :=
  ∀ (w0 w1 w2 : Word16) (s : State), ∃ (t : State) (r : Response),
    exec (.frDecGetSerialId (encWord w0 ++ encWord w1 ++ encWord w2)) s = .next t ∧ t.resp = some r ∧
    r.status = .ok ∧ r.payload.extractLsb' 24 48 = w0 ++ w1 ++ w2

/-- FR.DEC with an empty reply always completes with status OK and `len = 0`, and ignores `data` (41_framer R85). -/
def Obligations.EmptyRepliesAlwaysComplete : Prop :=
  (∀ d : Field72, decodeRequest (mkRequest 0x7#4 0#4 d) = .frDecIaqInit ∧
    decodeRequest (mkRequest 0x7#4 3#4 d) = .frDecSetIaqBaseline) ∧
  ∀ s : State,
    exec .frDecIaqInit s = .next { s with resp := some ⟨.ok, s.crc, 0#4, 0#72, 0#2, 0#8, 0#7⟩ } ∧
    exec .frDecSetIaqBaseline s = .next { s with resp := some ⟨.ok, s.crc, 0#4, 0#72, 0#2, 0#8, 0#7⟩ }

/-- FR.CHKFS: OK for 0x0020, DEVICE_NOT_DETECTED for every other word, all 16 bits compared (41_framer R86). -/
def Obligations.OnlyTheExpectedIdentityPasses : Prop :=
  (∀ (sel : BitVec 4) (d : Field72), decodeRequest (mkRequest 0x8#4 sel d) = .frChkfs (d.extractLsb' 0 16)) ∧
  (∀ s : State, exec (.frChkfs 0x0020#16) s =
    .next { s with resp := some ⟨.ok, s.crc, 0#4, 0#72, 0#2, 0#8, 0#7⟩ }) ∧
  (∀ (w : Word16) (s : State), w ≠ 0x0020#16 → exec (.frChkfs w) s =
    .next { s with resp := some ⟨.deviceNotDetected, s.crc, 0#4, 0#72, 0#2, 0#8, 0#7⟩ })

/-! ### Status codes and reserved encodings -/

/-- Reserved ops and reserved selectors complete with ILLEGAL_OP, leave `crc` unchanged and return no payload (30_encoding
R56, R57). -/
def Obligations.ReservedEncodingsGiveIllegalOp : Prop :=
  (∀ (i : Instr) (s : State),
    i ∈ [.reservedOp9, .reservedOpA, .reservedOpB, .reservedOpC, .reservedOpD, .reservedOpE, .reservedOpF,
      .reservedEncSel6, .reservedEncSel7, .reservedEncSel8, .reservedEncSel9, .reservedEncSel10,
      .reservedEncSel11, .reservedEncSel12, .reservedEncSel13, .reservedEncSel14, .reservedEncSel15,
      .reservedDecSel6, .reservedDecSel7, .reservedDecSel8, .reservedDecSel9, .reservedDecSel10,
      .reservedDecSel11, .reservedDecSel12, .reservedDecSel13, .reservedDecSel14, .reservedDecSel15] →
    exec i s = .next { s with resp := some ⟨.illegalOp, s.crc, 0#4, 0#72, 0#2, 0#8, 0#7⟩ }) ∧
  (∀ (op sel : BitVec 4) (d : Field72) (s : State),
    9 ≤ op.toNat ∨ ((op = 0x6#4 ∨ op = 0x7#4) ∧ 6 ≤ sel.toNat) →
    exec (decodeRequest (mkRequest op sel d)) s =
      .next { s with resp := some ⟨.illegalOp, s.crc, 0#4, 0#72, 0#2, 0#8, 0#7⟩ })

/-- Effect of a non-OK status: the state is as before but for the response, whose `crc` is the unchanged register and
whose other fields are all 0 (60_exceptions R97). -/
def Obligations.ErrorStatusChangesNothing : Prop :=
  ∀ (i : Instr) (s t : State) (r : Response), i.isRequest = true → exec i s = .next t → t.resp = some r →
    r.status ≠ .ok → t = { s with resp := some ⟨r.status, s.crc, 0#4, 0#72, 0#2, 0#8, 0#7⟩ }

/-- The statuses each op can produce; each list is complete (60_exceptions R98). -/
def Obligations.StatusesOfEachOp : Prop :=
  ∀ (op sel : BitVec 4) (d : Field72) (s t : State) (r : Response),
    exec (decodeRequest (mkRequest op sel d)) s = .next t → t.resp = some r →
    (op.toNat ≤ 4 → r.status = .ok) ∧
    (op = 0x5#4 → r.status ∈ [.ok, .checksumMismatch]) ∧
    (op = 0x6#4 → sel.toNat ≤ 5 ∧ sel ≠ 3#4 → r.status = .ok) ∧
    (op = 0x6#4 → sel = 3#4 → r.status ∈ [.ok, .invalidBaseline]) ∧
    (op = 0x7#4 → sel = 0#4 ∨ sel = 3#4 → r.status = .ok) ∧
    (op = 0x7#4 → sel = 1#4 ∨ sel = 2#4 ∨ sel = 4#4 ∨ sel = 5#4 → r.status ∈ [.ok, .checksumMismatch]) ∧
    (op = 0x6#4 ∨ op = 0x7#4 → 6 ≤ sel.toNat → r.status = .illegalOp) ∧
    (op = 0x8#4 → r.status ∈ [.ok, .deviceNotDetected]) ∧
    (9 ≤ op.toNat → r.status = .illegalOp)

/-! ### The machine: steps, the request port, reset -/

/-- A step runs the decoded instruction: when the host's next event is a request and no byte is in progress, the step is
exec of the decoded instruction, after the request has left the input list, `rst` is 0 and the last response is gone. -/
def Obligations.StepRunsTheDecodedRequest : Prop :=
  ∀ (s : State) (w : Request) (later : List Event), s.inbox = .request w :: later → s.inProgress = false →
    step s = exec (decodeRequest w) { s with inbox := later, rst := false, resp := none }

/-- A step runs a wire command the same way. A word that is no sensor opcode is bad input to the sensor (91 N10); that the
block goes on as before and the bus is no longer trusted is the model's choice (log 12). -/
def Obligations.StepRunsTheDecodedCommand : Prop :=
  ∀ (s : State) (k : Word16) (later : List Event), s.inbox = .command k :: later → s.inProgress = false →
    (∀ i : Instr, decodeCommand k = some i →
      step s = exec i { s with inbox := later, rst := false, resp := none }) ∧
    (decodeCommand k = none →
      step s = .next { s with inbox := later, rst := false, resp := none, untrusted := true })

/-- Every accepted request is answered at once, exactly once, and taken from the head of the host's list (10_state R31,
60_exceptions R102). -/
def Obligations.EveryRequestIsAnswered : Prop :=
  ∀ (s : State) (w : Request) (later : List Event), s.inbox = .request w :: later → s.inProgress = false →
    ∃ (t : State) (r : Response), step s = .next t ∧ t.resp = some r ∧ t.inbox = later ∧ r.crc = t.crc ∧
      r.status ≠ .transportError

/-- The reset values (10_state R34), for every build: `req_ready` is 0 while `rst = 1` and 1 after reset. -/
def Obligations.ResetValues : Prop :=
  (∀ b : Build, (State.resetOf b).crc = 0xFF#8 ∧ (State.resetOf b).serialCount = 0#3 ∧
    (State.resetOf b).reqReady = true ∧ (State.resetOf b).respValid = false ∧ (State.resetOf b).crcOut = 0xFF#8) ∧
  ∀ s : State, s.rst = true → s.reqReady = false

/-- Reset: at an edge with `rst = 1`, and in the reset step of the transaction model, `crc <- 0xFF`, the progress counter
is 0, `req_ready` is 0 so no request is accepted, and there is no response; with `rst` back at 0 the port is ready
again (70_reset_and_hazards R111). Not R111's but the model's: that a reset of the block leaves the bus fields `slot` and
`untrusted` alone (log 10), and at which edge the port is ready again (log 8). -/
def Obligations.ResetLoadsInitialValue : Prop :=
  ∀ (s : State) (e : Event) (later : List Event), s.inbox = e :: later →
    e = .reset ∨ (∃ (v : Bool) (w : Request), e = .clock ⟨true, v, w⟩) →
    ∃ t : State, step s = .next t ∧ t.crc = 0xFF#8 ∧ t.serialCount = 0#3 ∧ t.reqReady = false ∧ t.resp = none ∧
      t.inbox = later ∧ t.build = s.build ∧ t.slot = s.slot ∧
      t.untrusted = s.untrusted ∧
      (∀ (w : Request) (rest : List Event), later = .clock ⟨false, false, w⟩ :: rest →
        ∃ u : State, step t = .next u ∧ u.reqReady = true ∧ u.crc = 0xFF#8)

/-- Reset in the middle of a CRC.BYTE abandons it: its request has left the input list, it gets no response, and `crc`
becomes 0xFF; a PARALLEL build never has a request in progress after a step (70_reset_and_hazards R112). -/
def Obligations.ResetAbandonsTheByteInProgress : Prop :=
  (∀ (s : State) (later : List Event), s.inv = true → s.inProgress = true → s.inbox = .reset :: later →
    s.resp = none ∧ ∃ t : State, step s = .next t ∧ t.resp = none ∧ t.crc = 0xFF#8 ∧ t.inProgress = false ∧
      t.inbox = later) ∧
  (∀ s t : State, s.build.crcImpl = .parallel → s.inProgress = false → step s = .next t → t.inProgress = false)

/-- SERIAL: a CRC.BYTE accepted at a clock edge takes eight cycles; in the seven between, the port is not ready, no response
is shown and `crc` is as before; then the whole state is what the atomic CRC.BYTE gives, but for the model's own counter
of free values (10_state R27, R30; 70 R117). The model's choices: that `crc` and the hidden fields hold these values in the
middle of a byte (log 5, which no output shows), which edge counts as the first (log 20), and that the accepting edge may
be the first one after reset (log 8, since `s.rst` is not restricted). -/
def Obligations.SerialByteRefinesAtomicByte : Prop :=
  ∀ (s : State) (w : Request) (b : Byte) (ps : List Pins) (later : List Event),
    s.build.crcImpl = .serial → s.inProgress = false → s.serialByte = 0#8 → s.serialReg = 0#8 →
    decodeRequest w = .crcByte b → ps.length = 7 → (∀ p ∈ ps, p.rst = false) →
    s.inbox = .clock ⟨false, true, w⟩ :: (ps.map Event.clock ++ later) →
    (∀ k, 1 ≤ k → k ≤ 7 → ∃ t : State, Host.Core.run core k s = .next t ∧ t.reqReady = false ∧ t.resp = none ∧
      t.crc = s.crc) ∧
    ∃ t u : State, Host.Core.run core 8 s = .next t ∧
      exec (.crcByte b) { s with inbox := later, rst := false, resp := none } = .next u ∧
      t = { u with draws := t.draws } ∧ t.reqReady = true

/-- Every other request at a clock edge, and every request of a PARALLEL build, is served in that one cycle
(70_reset_and_hazards R117). The model's readings: that the latency of 1 means the accepting edge itself (log 20), and
that the very first edge after reset accepts too (log 8, since `s.rst` is not restricted). -/
def Obligations.OtherRequestsTakeOneCycle : Prop :=
  ∀ (s : State) (w : Request) (later : List Event), s.inProgress = false →
    s.build.crcImpl = .parallel ∨ (∀ b : Byte, decodeRequest w ≠ .crcByte b) →
    s.inbox = .clock ⟨false, true, w⟩ :: later →
    step s = exec (decodeRequest w) { s with inbox := later, rst := false, resp := none }

/-- A request behind a byte in progress is held, not lost, and the block alone lifts the hold within seven cycles, by
answering the byte (10_state R30, 70_reset_and_hazards R117). -/
def Obligations.HeldRequestIsReleasedByTheBlock : Prop :=
  ∀ (s : State) (w : Request) (later : List Event), s.inProgress = true → s.inbox = .request w :: later →
    ∃ (k : Nat) (t : State), k ≤ 7 ∧ Host.Core.run core k s = .next t ∧ t.inProgress = false ∧
      t.inbox = .request w :: later ∧ t.respValid = true ∧ t.reqReady = true

/-- `crc_out` is always `crc` when no byte is in progress, and 0xFF during reset (10_state R32). What it shows mid-byte is a
free value and nothing is said of it. -/
def Obligations.CrcOutShowsTheRegister : Prop :=
  (∀ s : State, s.inProgress = false → s.crcOut = s.crc) ∧
  (∀ s : State, s.inv = true → s.rst = true → s.crcOut = 0xFF#8)

/-- The register is written only by reset, CRC.INIT, CRC.BYTE and CRC.BIT (10_state R21, 40_crc R128): no other instruction
changes it, and a step that changes it is a reset, the last cycle of a SERIAL CRC.BYTE, or the acceptance of one of the
three requests with no byte in progress. That the last cycle shows as the counter at 7 with the value in the hidden fields
is the model's choice (log 5), as is the split into events (log 4). -/
def Obligations.OnlyResetAndCrcOpsWriteTheRegister : Prop :=
  (∀ (i : Instr) (s t : State), writesCrc i = false → exec i s = .next t → t.crc = s.crc) ∧
  (∀ s t : State, step s = .next t → t.crc ≠ s.crc →
    (s.inProgress = true ∧ s.serialCount = 7#3 ∧ t.crc = crc8Bit s.serialReg (s.serialByte.extractLsb' 0 1)) ∨
    (∃ later : List Event, s.inbox = .reset :: later ∧ t.crc = 0xFF#8) ∨
    (∃ (p : Pins) (later : List Event), s.inbox = .clock p :: later ∧ p.rst = true ∧ t.crc = 0xFF#8) ∨
    (∃ (w : Request) (later : List Event), s.inProgress = false ∧
      (s.inbox = .request w :: later ∨ s.inbox = .clock ⟨false, true, w⟩ :: later) ∧
      ((decodeRequest w = .crcInit ∧ t.crc = 0xFF#8) ∨
        (∃ b : Byte, decodeRequest w = .crcByte b ∧ t.crc = crc8Step s.crc b) ∨
        (∃ d : BitVec 1, decodeRequest w = .crcBit d ∧ t.crc = crc8Bit s.crc d))))

/-- The frame of every request: only `crc` and the response port can change; the build, the inputs, the hidden serial state
and the bus are as before. The build parameters are fixed for the machine: no step changes them (10_state R25). -/
def Obligations.RequestsLeaveTheRestAlone : Prop :=
  (∀ (i : Instr) (s : State), i.isRequest = true → ∃ (c : Byte) (r : Response),
    exec i s = .next { s with crc := c, resp := some r } ∧ r.crc = c) ∧
  (∀ s t : State, step s = .next t → t.build = s.build)

/-! ### The bus -/

/-- The six wire opcodes: each goes on in every state, makes its own the transaction that the host has to complete, and
changes nothing of the block, which "does not check this" (70_reset_and_hazards R119). The model's choices: the field
`slot` and that nothing else happens (log 10), and that a command written over another's transaction is recorded in
`untrusted` (log 11). -/
def Obligations.SensorCommandsTakeTheOneSlot : Prop :=
  ∀ s : State,
    let broken := s.untrusted || s.slot.isSome
    exec .sensorIaqInit s = .next { s with slot := some .iaqInit, untrusted := broken } ∧
    exec .sensorMeasureIaq s = .next { s with slot := some .measureIaq, untrusted := broken } ∧
    exec .sensorGetIaqBaseline s = .next { s with slot := some .getIaqBaseline, untrusted := broken } ∧
    exec .sensorSetIaqBaseline s = .next { s with slot := some .setIaqBaseline, untrusted := broken } ∧
    exec .sensorGetSerialId s = .next { s with slot := some .getSerialId, untrusted := broken } ∧
    exec .sensorGetFeatureset s = .next { s with slot := some .getFeatureset, untrusted := broken }

/-- A transaction is completed only after the command's settle delay, 50 ms for MEASURE_IAQ and 10 ms for every other
command, with no upper bound; ended earlier it stays and the handle is not trusted (70_reset_and_hazards R119, R120, R123).
Only a wire command and a completed end change the slot. The model's choices: that one event says the host has waited and
read, the two not told apart (log 19), the field `slot` (log 10) and what an early end records (log 11). -/
def Obligations.TransactionsEndAfterTheirDelay : Prop :=
  (∀ (s : State) (c : Selector) (ms : Nat) (later : List Event),
    s.inProgress = false → s.slot = some c → s.inbox = .finish ms :: later →
    let d := if c = .measureIaq then 50 else 10
    (d ≤ ms → step s = .next { s with inbox := later, rst := false, resp := none, slot := none }) ∧
    (ms < d → step s = .next { s with inbox := later, rst := false, resp := none, untrusted := true })) ∧
  (∀ s t : State, step s = .next t → t.slot ≠ s.slot →
    s.inProgress = false ∧
      ((∃ (k : Word16) (later : List Event), s.inbox = .command k :: later ∧ (decodeCommand k).isSome = true) ∨
       (∃ (c : Selector) (ms : Nat) (later : List Event), s.inbox = .finish ms :: later ∧ s.slot = some c ∧
         (if c = .measureIaq then 50 else 10) ≤ ms ∧ t.slot = none)))

/-- Every step ends in a next state, whatever the host does: requests answer with a status (60_exceptions R100, R104), and
the block checks nothing of the bus (70_reset_and_hazards R119, R120). The model records what it does not check: an event
that breaks the host's obligations leaves the handle untrusted, one that keeps them does not, and only a new handle with no
transaction under way is trusted again. The record and what counts as broken are the model's choices (logs 11, 12, 19). -/
def Obligations.EveryStepGoesOnAndRecordsBrokenBusRules : Prop :=
  ∀ s : State, ∃ t : State, step s = .next t ∧
    (hostObeys s = false → t.untrusted = true) ∧
    (hostObeys s = true → t.untrusted = true → s.untrusted = true) ∧
    (t.untrusted = false → s.untrusted = true →
      s.inProgress = false ∧ s.slot = none ∧ ∃ later : List Event, s.inbox = .constructed :: later)

/-- Recovery from an interrupted delay (70_reset_and_hazards R123): the device is left mid-transaction and the handle is not
trusted, the block needs no reset and its `crc` is untouched, and the host recovers by running the construction sequence of
R122 again, each command with at least its delay of 10 ms. The events and the record are the model's choices (logs 10, 11,
19). -/
def Obligations.InterruptedTransactionIsRecoveredByConstruction : Prop :=
  ∀ (s : State) (c : Selector) (m1 m2 m3 : Nat) (later : List Event),
    s.inProgress = false → s.slot = some c → 10 ≤ m1 → 10 ≤ m2 → 10 ≤ m3 →
    s.inbox = [.abandon, .command 0x3682#16, .finish m1, .command 0x202F#16, .finish m2, .command 0x2003#16, .finish m3,
      .constructed] ++ later →
    (∃ t : State, Host.Core.run core 1 s = .next t ∧ t.slot = some c ∧ t.untrusted = true) ∧
    (∀ k, 1 ≤ k → k ≤ 7 → ∃ t : State, Host.Core.run core k s = .next t ∧ t.untrusted = true ∧ t.crc = s.crc) ∧
    Host.Core.run core 8 s =
      .next { s with inbox := later, rst := false, resp := none, slot := none, untrusted := false }

/-- The host's transaction (70_reset_and_hazards R121): with an acknowledged write and a reply of valid triples, it writes the
opcode to `DEV_ADDR`, waits the command's delay, reads three bytes a word and returns the words, `crc` untouched. -/
def Obligations.RunCommandReturnsTheReplyWords : Prop :=
  ∀ (c : Selector) (s : State) (ws : List Word16) (x : Transport),
    (rom c).replyWords ≠ 0 → ws.length = (rom c).replyWords → x = ⟨true, .bytes (ws.flatMap encWord)⟩ →
    ∃ m : HostRun (List Word16), runCommand c 0#16 0#16 x s = some m ∧ m.result = .ok ws ∧
      m.bus = [.write s.build.devAddr [(rom c).opcode.extractLsb' 8 8, (rom c).opcode.extractLsb' 0 8],
        .sleep (rom c).delayMs, .read s.build.devAddr (3 * ws.length)] ∧ m.state.crc = s.crc

/-- Construction fails fast: a wrong identity gives DEVICE_NOT_DETECTED and no handle, and IAQ_INIT is never sent (70 R122,
60_exceptions R101 (a)). -/
def Obligations.WrongIdentityStopsConstruction : Prop :=
  ∀ (w0 w1 w2 w : Word16) (x3 : Transport) (s : State), w ≠ 0x0020#16 →
    ∃ m : HostRun Handle,
      construct ⟨true, .bytes (encWord w0 ++ encWord w1 ++ encWord w2)⟩ ⟨true, .bytes (encWord w)⟩ x3 s = some m ∧
      m.result = .error .deviceNotDetected ∧
      ∀ a : BitVec 7, ∀ bytes : List Byte, .write a bytes ∈ m.bus → bytes ≠ [0x20#8, 0x03#8]

/-- A read that never returns is an infinite wait of the host, which no timeout ends (70_reset_and_hazards R124): the
transaction of a command with a reply stops at the read for good, with the block's `crc` untouched, and so does the
construction sequence at its first read. A command without a reply reads nothing and is not concerned. -/
def Obligations.ReadThatNeverReturnsHangsTheHost : Prop :=
  (∀ (c : Selector) (co2 tvoc : Word16) (s : State), (rom c).replyWords ≠ 0 →
    ∃ m : HostRun (List Word16), runCommand c co2 tvoc ⟨true, .never⟩ s = some m ∧ m.result = .hang ∧
      m.bus = [.write s.build.devAddr [(rom c).opcode.extractLsb' 8 8, (rom c).opcode.extractLsb' 0 8],
        .sleep (rom c).delayMs, .read s.build.devAddr (3 * (rom c).replyWords)] ∧ m.state.crc = s.crc) ∧
  (∀ (x2 x3 : Transport) (s : State), ∃ m : HostRun Handle,
    construct ⟨true, .never⟩ x2 x3 s = some m ∧ m.result = .hang ∧
      m.bus = [.write s.build.devAddr [0x36#8, 0x82#8], .sleep 10, .read s.build.devAddr 9] ∧ m.state.crc = s.crc) ∧
  (∀ (c : Selector) (co2 tvoc : Word16) (s : State), (rom c).replyWords = 0 → ¬(co2 = 0#16 ∧ tvoc = 0#16) →
    ∃ m : HostRun (List Word16), runCommand c co2 tvoc ⟨true, .never⟩ s = some m ∧ m.result = .ok [])

/-! ### The invariant -/

/-- The invariant holds right after reset, and at power-up whatever the register holds, for every build. That the hidden
serial state is empty at power-up is the model's choice (log 7), and so are the hidden fields themselves (log 5). -/
def Obligations.InvariantHoldsAtReset : Prop :=
  ∀ b : Build, (State.resetOf b).inv = true ∧ (State.powerUp b).inv = true

/-- Every step keeps the invariant: the response shown is a legal one and reports the register as it is, the hidden serial
state is what the bits fed so far give and exists only in a SERIAL build with the port not ready, and during reset the
register is 0xFF with nothing in progress (10_state R27, R30 to R34; 30_encoding R55; 60 R96, R97; 70 R111). The layout of
the hidden serial state, 0 when idle and folded from a `crc` that keeps its old value, is the model's choice (log 5). -/
def Obligations.EveryStepKeepsTheInvariant : Prop :=
  ∀ s t : State, s.inv = true → step s = .next t → t.inv = true
end

