-- ==== Sys2Proof/Laws/Crc.lean ====
section
/-! SUPPORT. The CRC functions push down to XOR and shifts (40_crc R62 to R65), and what `decFrame` can answer. -/

namespace Sys2Proof.Machine

/-- One turn of the loop is linear over XOR (40_crc R65). -/
theorem shiftStep_xor (x y : Byte) : shiftStep (x ^^^ y) = shiftStep x ^^^ shiftStep y := by
  have h : ∀ u v : Byte, (u ^^^ v) <<< 1 = (u <<< 1) ^^^ (v <<< 1) := by
    intro u v; ext i hi; simp [Bool.and_xor_distrib_left]
  have p : ∀ u v : Byte, u ^^^ v = (u ^^^ crcPoly) ^^^ (v ^^^ crcPoly) := by
    intro u v; ext i hi; simp [Bool.xor_left_comm, Bool.xor_comm]
  unfold shiftStep
  rw [BitVec.getLsbD_xor, h]
  cases x.getLsbD 7 <;> cases y.getLsbD 7
  · rfl
  · exact BitVec.xor_assoc _ _ _
  · show (x <<< 1 ^^^ y <<< 1) ^^^ crcPoly = (x <<< 1 ^^^ crcPoly) ^^^ y <<< 1
    rw [BitVec.xor_assoc, BitVec.xor_assoc, BitVec.xor_comm crcPoly]
  · exact p _ _

theorem shiftSteps_xor (n : Nat) (x y : Byte) :
    shiftSteps n (x ^^^ y) = shiftSteps n x ^^^ shiftSteps n y := by
  induction n generalizing x y with
  | zero => rfl
  | succ n ih => simp [shiftSteps, shiftStep_xor, ih]

/-- A bit step is a loop turn of the register with the bit XORed into its top (40_crc R64, R65). -/
theorem crc8Bit_eq_shiftStep (c : Byte) (d : BitVec 1) :
    crc8Bit c d = shiftStep (c ^^^ (d.setWidth 8 <<< 7)) := by
  have key : ∀ (c : Byte) (d : BitVec 1), crc8Bit c d = shiftStep (c ^^^ (d.setWidth 8 <<< 7)) := by
    set_option maxRecDepth 20000 in decide +kernel
  exact key c d

@[simp] theorem crc8From_nil (c : Byte) : crc8From c [] = c := rfl

@[simp] theorem crc8From_cons (c b : Byte) (s : List Byte) :
    crc8From c (b :: s) = crc8From (crc8Step c b) s := rfl

theorem crc8From_append (c : Byte) (s u : List Byte) :
    crc8From c (s ++ u) = crc8From (crc8From c s) u := by
  simp [crc8From, List.foldl_append]

@[simp] theorem feedBits_zero (c b : Byte) : feedBits c b 0 = c := rfl

theorem feedBits_succ (c b : Byte) (k : Nat) :
    feedBits c b (k + 1) = crc8Bit (feedBits c b k) (bitMsbFirst b k) := rfl

@[simp] theorem encWord_length (w : Word16) : (encWord w).length = 3 := rfl

@[simp] theorem wordBytes_length (w : Word16) : (wordBytes w).length = 2 := rfl

/-- Everything `decWord` can answer (41_framer R78). -/
theorem decWord_cases (t0 t1 t2 : Byte) :
    (crc8 [t0, t1] = t2 ∧ decWord t0 t1 t2 = (true, word t0 t1)) ∨
    (crc8 [t0, t1] ≠ t2 ∧ decWord t0 t1 t2 = (false, 0#16)) := by
  unfold decWord
  split
  · exact .inl ⟨‹_›, rfl⟩
  · exact .inr ⟨‹_›, rfl⟩

/-- A decoded frame has as many words as were asked for (41_framer R84). -/
theorem decFrame_length {n : Nat} {r : List Byte} {ws : List Word16} (h : decFrame n r = some ws) :
    ws.length = n := by
  induction n generalizing r ws with
  | zero => simp [decFrame] at h; simp [← h]
  | succ n ih =>
    match r with
    | t0 :: t1 :: t2 :: r =>
      rcases decWord_cases t0 t1 t2 with ⟨-, e⟩ | ⟨-, e⟩
      · simp only [decFrame, e, Option.map_eq_some_iff] at h
        obtain ⟨vs, hv, rfl⟩ := h
        simp [ih hv]
      · simp [decFrame, e] at h
    | [] => simp [decFrame] at h
    | [_] => simp [decFrame] at h
    | [_, _] => simp [decFrame] at h

end Sys2Proof.Machine
end

