-- ==== Sys2Proof/Laws/Decode.lean ====
section
/-! SUPPORT. The fields of a request assembled from fields, the length of a reply operand, and which rows of the opcode
table such a request selects. -/

namespace Sys2Proof

open Machine

@[simp] theorem opField_mkRequest (op sel : BitVec 4) (d : Field72) : opField (mkRequest op sel d) = op := by
  ext i hi
  simp only [opField, mkRequest, BitVec.getElem_extractLsb', BitVec.getLsbD_append]
  rw [if_neg (by omega), if_neg (by omega), ← BitVec.getLsbD_eq_getElem]
  congr 1
  omega

@[simp] theorem selField_mkRequest (op sel : BitVec 4) (d : Field72) : selField (mkRequest op sel d) = sel := by
  ext i hi
  simp only [selField, mkRequest, BitVec.getElem_extractLsb', BitVec.getLsbD_append]
  rw [if_neg (by omega), if_pos (by omega), ← BitVec.getLsbD_eq_getElem]
  congr 1
  omega

/-- Bit `i` of a request assembled from its fields (30_encoding R46). -/
theorem getLsbD_mkRequest (op sel : BitVec 4) (d : Field72) (i : Nat) :
    (mkRequest op sel d).getLsbD i =
      if i < 72 then d.getLsbD i else if i - 72 < 4 then sel.getLsbD (i - 72) else op.getLsbD (i - 72 - 4) := by
  show ((op ++ sel) ++ d).getLsbD i = _
  rw [BitVec.getLsbD_append, BitVec.getLsbD_append]

@[simp] theorem dataField_mkRequest (op sel : BitVec 4) (d : Field72) : dataField (mkRequest op sel d) = d := by
  ext i hi
  simp [dataField, getLsbD_mkRequest, hi]

/-- A request is its three fields (30_encoding R46). -/
theorem mkRequest_fields (w : Request) : mkRequest (opField w) (selField w) (dataField w) = w := by
  ext i hi
  simp only [mkRequest, opField, selField, dataField, ← BitVec.getLsbD_eq_getElem, BitVec.getLsbD_append,
    BitVec.getLsbD_extractLsb']
  by_cases h : i < 72
  · simp [h]
  · by_cases h' : i - 72 < 4
    · simp [h, h']; congr 1; omega
    · simp [h, h', show i - 72 - 4 < 4 by omega]; congr 1; omega

@[simp] theorem takeBytes_length (n : Nat) (F : Field72) : (takeBytes n F).length = n := by
  simp [takeBytes]

theorem mkRequest_and (a b c d : BitVec 4) (x y : Field72) :
    mkRequest a b x &&& mkRequest c d y = mkRequest (a &&& c) (b &&& d) (x &&& y) := by
  apply BitVec.eq_of_getLsbD_eq
  intro i hi
  simp only [BitVec.getLsbD_and, getLsbD_mkRequest]
  split
  · rfl
  · split <;> rfl

theorem mkRequest_inj {a b c d : BitVec 4} {x y : Field72} :
    mkRequest a b x = mkRequest c d y ↔ a = c ∧ b = d ∧ x = y := by
  constructor
  · intro h
    exact ⟨by simpa using congrArg opField h, by simpa using congrArg selField h,
      by simpa using congrArg dataField h⟩
  · rintro ⟨rfl, rfl, rfl⟩; rfl

/-- A row decided by `op` is selected exactly by the requests with that `op`. -/
theorem opRow_selects (m : String) (op a b : BitVec 4) (d : Field72) :
    (opRow m op).selects (mkRequest a b d) = (a == op) := by
  have h4 : ∀ x : BitVec 4, x &&& 0xF#4 = x := by decide
  rw [Bool.eq_iff_iff]
  simp [opRow, TableRow.selects, mkRequest_and, h4, mkRequest_inj]

/-- A row decided by `op` and `sel` is selected exactly by the requests with both. -/
theorem selRow_selects (m : String) (op sel a b : BitVec 4) (d : Field72) :
    (selRow m op sel).selects (mkRequest a b d) = (a == op && b == sel) := by
  have h4 : ∀ x : BitVec 4, x &&& 0xF#4 = x := by decide
  rw [Bool.eq_iff_iff]
  simp [selRow, TableRow.selects, mkRequest_and, h4, mkRequest_inj]

/-- The wire decoder reads the six ROM opcodes, each as its own command, and nothing else (30_encoding R52). -/
theorem decodeCommand_cases (k : Word16) :
    decodeCommand k = none ∨ ∃ i, decodeCommand k = some i ∧ i.isRequest = false ∧ encode i = .command k := by
  unfold decodeCommand
  repeat' split
  all_goals first
    | exact .inl rfl
    | (subst_vars; exact .inr ⟨_, rfl, rfl, rfl⟩)

end Sys2Proof
end

