-- ==== Sys2Proof/Laws/State.lean ====
section
/-! SUPPORT. One lemma per field for each named update of the state, so that no proof unfolds a record update. -/

namespace Sys2Proof.Machine

/-! `accept` -/

@[simp] theorem accept_crc (rest : List Event) (s : State) : (accept rest s).crc = s.crc := rfl
@[simp] theorem accept_serialCount (rest : List Event) (s : State) : (accept rest s).serialCount = s.serialCount := rfl
@[simp] theorem accept_serialByte (rest : List Event) (s : State) : (accept rest s).serialByte = s.serialByte := rfl
@[simp] theorem accept_serialReg (rest : List Event) (s : State) : (accept rest s).serialReg = s.serialReg := rfl
@[simp] theorem accept_rst (rest : List Event) (s : State) : (accept rest s).rst = false := rfl
@[simp] theorem accept_resp (rest : List Event) (s : State) : (accept rest s).resp = none := rfl
@[simp] theorem accept_build (rest : List Event) (s : State) : (accept rest s).build = s.build := rfl
@[simp] theorem accept_inbox (rest : List Event) (s : State) : (accept rest s).inbox = rest := rfl
@[simp] theorem accept_slot (rest : List Event) (s : State) : (accept rest s).slot = s.slot := rfl
@[simp] theorem accept_untrusted (rest : List Event) (s : State) : (accept rest s).untrusted = s.untrusted := rfl
@[simp] theorem accept_draws (rest : List Event) (s : State) : (accept rest s).draws = s.draws := rfl

/-! `idle` -/

@[simp] theorem idle_crc (s : State) : (idle s).crc = s.crc := rfl
@[simp] theorem idle_serialCount (s : State) : (idle s).serialCount = s.serialCount := rfl
@[simp] theorem idle_serialByte (s : State) : (idle s).serialByte = s.serialByte := rfl
@[simp] theorem idle_serialReg (s : State) : (idle s).serialReg = s.serialReg := rfl
@[simp] theorem idle_rst (s : State) : (idle s).rst = false := rfl
@[simp] theorem idle_resp (s : State) : (idle s).resp = none := rfl
@[simp] theorem idle_build (s : State) : (idle s).build = s.build := rfl
@[simp] theorem idle_inbox (s : State) : (idle s).inbox = s.inbox := rfl
@[simp] theorem idle_slot (s : State) : (idle s).slot = s.slot := rfl
@[simp] theorem idle_untrusted (s : State) : (idle s).untrusted = s.untrusted := rfl
@[simp] theorem idle_draws (s : State) : (idle s).draws = s.draws := rfl

/-! `takeReset` -/

@[simp] theorem takeReset_crc (s : State) : (takeReset s).crc = crcInit := rfl
@[simp] theorem takeReset_serialCount (s : State) : (takeReset s).serialCount = 0#3 := rfl
@[simp] theorem takeReset_serialByte (s : State) : (takeReset s).serialByte = 0#8 := rfl
@[simp] theorem takeReset_serialReg (s : State) : (takeReset s).serialReg = 0#8 := rfl
@[simp] theorem takeReset_rst (s : State) : (takeReset s).rst = true := rfl
@[simp] theorem takeReset_resp (s : State) : (takeReset s).resp = none := rfl
@[simp] theorem takeReset_build (s : State) : (takeReset s).build = s.build := rfl
@[simp] theorem takeReset_inbox (s : State) : (takeReset s).inbox = s.inbox := rfl
@[simp] theorem takeReset_slot (s : State) : (takeReset s).slot = s.slot := rfl
@[simp] theorem takeReset_untrusted (s : State) : (takeReset s).untrusted = s.untrusted := rfl
@[simp] theorem takeReset_draws (s : State) : (takeReset s).draws = s.draws := rfl

/-! `startByte` -/

@[simp] theorem startByte_crc (b : Byte) (s : State) : (startByte b s).crc = s.crc := rfl
@[simp] theorem startByte_serialCount (b : Byte) (s : State) : (startByte b s).serialCount = 1#3 := rfl
@[simp] theorem startByte_serialByte (b : Byte) (s : State) : (startByte b s).serialByte = b := rfl
@[simp] theorem startByte_serialReg (b : Byte) (s : State) : (startByte b s).serialReg = crc8Bit s.crc (bitMsbFirst b 0) := rfl
@[simp] theorem startByte_rst (b : Byte) (s : State) : (startByte b s).rst = s.rst := rfl
@[simp] theorem startByte_resp (b : Byte) (s : State) : (startByte b s).resp = s.resp := rfl
@[simp] theorem startByte_build (b : Byte) (s : State) : (startByte b s).build = s.build := rfl
@[simp] theorem startByte_inbox (b : Byte) (s : State) : (startByte b s).inbox = s.inbox := rfl
@[simp] theorem startByte_slot (b : Byte) (s : State) : (startByte b s).slot = s.slot := rfl
@[simp] theorem startByte_untrusted (b : Byte) (s : State) : (startByte b s).untrusted = s.untrusted := rfl
@[simp] theorem startByte_draws (b : Byte) (s : State) : (startByte b s).draws = s.draws + 1 := rfl

/-! Whether a byte is in progress depends on the counter alone. -/

theorem inProgress_iff (s : State) : s.inProgress = true ↔ s.serialCount ≠ 0#3 := by
  simp [State.inProgress]

theorem inProgress_eq_false_iff (s : State) : s.inProgress = false ↔ s.serialCount = 0#3 := by
  simp [State.inProgress]

@[simp] theorem inProgress_mk (c : Byte) (n : BitVec 3) (b g : Byte) (r : Bool) (p : Option Response) (u : Build)
    (e : List Event) (k : Option Selector) (q : Bool) (d : Nat) :
    (State.mk c n b g r p u e k q d).inProgress = (n != 0#3) := rfl

@[simp] theorem accept_inProgress (rest : List Event) (s : State) : (accept rest s).inProgress = s.inProgress := rfl

@[simp] theorem idle_inProgress (s : State) : (idle s).inProgress = s.inProgress := rfl

@[simp] theorem takeReset_inProgress (s : State) : (takeReset s).inProgress = false := rfl

@[simp] theorem startByte_inProgress (b : Byte) (s : State) : (startByte b s).inProgress = true := rfl

/-! The reset state. -/

theorem reset_eq : State.reset = State.resetOf Config.defaultBuild := rfl

@[simp] theorem resetOf_crc (b : Build) : (State.resetOf b).crc = crcInit := rfl
@[simp] theorem resetOf_build (b : Build) : (State.resetOf b).build = b := rfl
@[simp] theorem resetOf_inbox (b : Build) : (State.resetOf b).inbox = [] := rfl
@[simp] theorem resetOf_slot (b : Build) : (State.resetOf b).slot = none := rfl
@[simp] theorem resetOf_untrusted (b : Build) : (State.resetOf b).untrusted = false := rfl
@[simp] theorem resetOf_inProgress (b : Build) : (State.resetOf b).inProgress = false := rfl

end Sys2Proof.Machine
end

