-- ==== Sys2Proof/Laws/Ops.lean ====
section
/-! SUPPORT. One spec lemma per shared operation: everything it can do. Callers cite these instead of unfolding. -/

namespace Sys2Proof.Machine

theorem complete_eq (r : Response) (s : State) : complete r s = .next { s with resp := some r } := rfl

theorem acknowledge_eq (s : State) :
    acknowledge s = .next { s with resp := some (bareResponse .ok s.crc) } := rfl

/-- `raise` changes nothing but the response port (60_exceptions R97). -/
theorem raise_eq (st : Status) (s : State) :
    raise st s = .next { s with resp := some (bareResponse st s.crc) } := rfl

theorem writeCrc_eq (v : Byte) (s : State) :
    writeCrc v s = .next { s with crc := v, resp := some (bareResponse .ok v) } := rfl

theorem answer_eq (bytes : List Byte) (s : State) :
    answer bytes s = .next { s with resp := some (bytesResponse bytes s.crc) } := rfl

/-- What `answerReply` can answer: all the words, or CHECKSUM_MISMATCH (41_framer R84). -/
theorem answerReply_cases (c : Selector) (r : List Byte) (s : State) :
    (∃ ws, decFrame (rom c).replyWords r = some ws ∧ answerReply c r s = answer (ws.flatMap wordBytes) s) ∨
    (decFrame (rom c).replyWords r = none ∧ answerReply c r s = raise .checksumMismatch s) := by
  unfold answerReply
  cases h : decFrame (rom c).replyWords r with
  | some ws => exact .inl ⟨ws, rfl, rfl⟩
  | none => exact .inr ⟨rfl, rfl⟩

/-- `openTransaction` always goes on: it writes the slot, and records a command written over another's transaction
(70_reset_and_hazards R119). -/
theorem openTransaction_eq (c : Selector) (s : State) :
    openTransaction c s = .next { s with slot := some c, untrusted := s.untrusted || s.slot.isSome } := rfl

/-- Every request ends in one of the shared completions (30_encoding R55, 60_exceptions R97): nothing to report, the register
written, an error raised, a byte sequence of at most three bytes, a command frame of at most two payload words, or a
decoded reply. -/
theorem exec_request_cases {i : Instr} (h : i.isRequest = true) (s : State) :
    exec i s = acknowledge s ∨ (∃ v, exec i s = writeCrc v s) ∨
    (∃ st, st ≠ .ok ∧ st ≠ .transportError ∧ exec i s = raise st s) ∨
    (∃ bs, bs.length ≤ 3 ∧ exec i s = answer bs s) ∨
    (∃ c ps, ps.length ≤ 2 ∧ exec i s = answerCommand c ps s) ∨ ∃ c r, exec i s = answerReply c r s := by
  cases i <;> simp only [Instr.isRequest, Bool.false_eq_true] at h
  case nop => exact .inl rfl
  case crcInit => exact .inr (.inl ⟨_, rfl⟩)
  case crcByte => exact .inr (.inl ⟨_, rfl⟩)
  case crcBit => exact .inr (.inl ⟨_, rfl⟩)
  case frEncw w => exact .inr (.inr (.inr (.inl ⟨encWord w, by simp, rfl⟩)))
  case frDecw t0 t1 t2 =>
    by_cases hd : (decWord t0 t1 t2).1 = true
    · exact .inr (.inr (.inr (.inl ⟨[t0, t1], by simp, if_pos hd⟩)))
    · exact .inr (.inr (.inl ⟨.checksumMismatch, by decide, by decide, if_neg hd⟩))
  case frEncIaqInit => exact .inr (.inr (.inr (.inr (.inl ⟨.iaqInit, [], by simp, rfl⟩))))
  case frEncMeasureIaq => exact .inr (.inr (.inr (.inr (.inl ⟨.measureIaq, [], by simp, rfl⟩))))
  case frEncGetIaqBaseline => exact .inr (.inr (.inr (.inr (.inl ⟨.getIaqBaseline, [], by simp, rfl⟩))))
  case frEncGetSerialId => exact .inr (.inr (.inr (.inr (.inl ⟨.getSerialId, [], by simp, rfl⟩))))
  case frEncGetFeatureset => exact .inr (.inr (.inr (.inr (.inl ⟨.getFeatureset, [], by simp, rfl⟩))))
  case frEncSetIaqBaseline co2 tvoc =>
    by_cases hz : isZeroPair co2 tvoc = true
    · exact .inr (.inr (.inl ⟨.invalidBaseline, by decide, by decide, if_pos hz⟩))
    · exact .inr (.inr (.inr (.inr (.inl ⟨.setIaqBaseline, [tvoc, co2], by simp, if_neg hz⟩))))
  case frDecIaqInit => exact .inr (.inr (.inr (.inr (.inr ⟨.iaqInit, [], rfl⟩))))
  case frDecMeasureIaq r => exact .inr (.inr (.inr (.inr (.inr ⟨.measureIaq, r, rfl⟩))))
  case frDecGetIaqBaseline r => exact .inr (.inr (.inr (.inr (.inr ⟨.getIaqBaseline, r, rfl⟩))))
  case frDecSetIaqBaseline => exact .inr (.inr (.inr (.inr (.inr ⟨.setIaqBaseline, [], rfl⟩))))
  case frDecGetSerialId r => exact .inr (.inr (.inr (.inr (.inr ⟨.getSerialId, r, rfl⟩))))
  case frDecGetFeatureset r => exact .inr (.inr (.inr (.inr (.inr ⟨.getFeatureset, r, rfl⟩))))
  case frChkfs w =>
    by_cases hm : featuresetMatches w = true
    · exact .inl (if_pos hm)
    · exact .inr (.inr (.inl ⟨.deviceNotDetected, by decide, by decide, if_neg hm⟩))
  all_goals exact .inr (.inr (.inl ⟨.illegalOp, by decide, by decide, rfl⟩))

/-- Every wire opcode opens the transaction of some command, and does nothing else (70_reset_and_hazards R119). -/
theorem exec_command {i : Instr} (h : i.isRequest = false) (s : State) : ∃ c, exec i s = openTransaction c s := by
  cases i <;> simp only [Instr.isRequest, Bool.true_eq_false] at h <;> exact ⟨_, rfl⟩

theorem abandonTransaction_eq (s : State) :
    abandonTransaction s = .next { s with untrusted := s.untrusted || s.slot.isSome } := rfl

theorem badInput_eq (s : State) : badInput s = .next { s with untrusted := true } := rfl

theorem renewHandle_eq (s : State) :
    renewHandle s = .next { s with untrusted := s.untrusted && s.slot.isSome } := rfl

/-- What `endTransaction` can answer, always a next state: nothing to end, complete, or interrupted
(70_reset_and_hazards R119, R120, R123). -/
theorem endTransaction_cases (ms : Nat) (s : State) :
    (s.slot = none ∧ endTransaction ms s = .next s) ∨
    (∃ c, s.slot = some c ∧ (rom c).delayMs ≤ ms ∧ endTransaction ms s = .next { s with slot := none }) ∨
    (∃ c, s.slot = some c ∧ ¬(rom c).delayMs ≤ ms ∧ endTransaction ms s = .next { s with untrusted := true }) := by
  unfold endTransaction
  cases h : s.slot with
  | none => exact .inl ⟨rfl, rfl⟩
  | some c =>
    by_cases hd : (rom c).delayMs ≤ ms
    · exact .inr (.inl ⟨c, rfl, hd, by simp [hd]⟩)
    · exact .inr (.inr ⟨c, rfl, hd, by simp [hd, abandonTransaction, h]⟩)

/-- Every status has a code, and it is read back as that status (60_exceptions R96). -/
theorem statusOfCode_code (st : Status) : statusOfCode st.code = some st := by cases st <;> rfl

/-- What one more cycle of a byte in progress can do: complete it, or count one more bit (10_state R27). -/
theorem advanceByte_cases (s : State) :
    let c := crc8Bit s.serialReg (bitMsbFirst s.serialByte s.serialCount.toNat)
    (s.serialCount = 7#3 ∧ advanceByte s =
      { s with
        crc := c, serialCount := 0#3, serialByte := 0#8, serialReg := 0#8, rst := false,
        resp := some (bareResponse .ok c) }) ∨
    (s.serialCount ≠ 7#3 ∧ advanceByte s =
      { s with
        serialCount := s.serialCount + 1#3, serialReg := c, rst := false, resp := none, draws := s.draws + 1 }) := by
  by_cases h : s.serialCount = 7#3
  · exact .inl ⟨h, by simp [advanceByte, h]⟩
  · exact .inr ⟨h, by simp [advanceByte, h]⟩

@[simp] theorem advanceByte_inbox (s : State) : (advanceByte s).inbox = s.inbox := by
  rcases advanceByte_cases s with ⟨-, e⟩ | ⟨-, e⟩ <;> rw [e]

@[simp] theorem advanceByte_build (s : State) : (advanceByte s).build = s.build := by
  rcases advanceByte_cases s with ⟨-, e⟩ | ⟨-, e⟩ <;> rw [e]

@[simp] theorem advanceByte_slot (s : State) : (advanceByte s).slot = s.slot := by
  rcases advanceByte_cases s with ⟨-, e⟩ | ⟨-, e⟩ <;> rw [e]

@[simp] theorem advanceByte_untrusted (s : State) : (advanceByte s).untrusted = s.untrusted := by
  rcases advanceByte_cases s with ⟨-, e⟩ | ⟨-, e⟩ <;> rw [e]

@[simp] theorem advanceByte_rst (s : State) : (advanceByte s).rst = false := by
  rcases advanceByte_cases s with ⟨-, e⟩ | ⟨-, e⟩ <;> rw [e]

@[simp] theorem answerCommand_eq (c : Selector) (payload : List Word16) (s : State) :
    answerCommand c payload s = .next { s with
      resp := some
        { bytesResponse (commandFrame (rom c).opcode payload) s.crc with
          rxw := BitVec.ofNat 2 (rom c).replyWords, delayMs := BitVec.ofNat 8 (rom c).delayMs,
          addr := s.build.devAddr } } := rfl

end Sys2Proof.Machine
end

