-- ==== Sys2Proof/Laws/PerInstr.lean ====
section
/-! SUPPORT. Per-instruction laws about the syntax. Family `OwnRow`: the word the encoder writes for an instruction lies
in that instruction's own row of the opcode table (30_encoding R47, R50, R52). -/

-- One thread per theorem would reserve more stack space than the check allows.
set_option Elab.async false

namespace Sys2Proof.Laws.OwnRow

open Sys2Proof Sys2Proof.Machine

/-- The encoded word of `i` selects a REQ80 row with `i`'s mnemonic, or is the wire opcode of `i`. -/
def Statement (i : Instr) : Prop :=
  match encode i with
  | .request w => ∃ row ∈ requestRows, row.mnemonic = i.mnemonic ∧ row.selects w = true
  | .command k => decodeCommand k = some i

/-- A request word built from an op lies in a row of that op. -/
theorem of_opRow {i : Instr} (m : String) {op sel : BitVec 4} {d : Field72}
    (he : encode i = .request (mkRequest op sel d)) (hm : i.mnemonic = m) (hr : opRow m op ∈ requestRows) :
    Statement i := by
  simp only [Statement, he]
  exact ⟨opRow m op, hr, hm.symm, by simp [opRow_selects]⟩

/-- A request word built from an op and a selector lies in a row of both. -/
theorem of_selRow {i : Instr} (m : String) {op sel : BitVec 4} {d : Field72}
    (he : encode i = .request (mkRequest op sel d)) (hm : i.mnemonic = m) (hr : selRow m op sel ∈ requestRows) :
    Statement i := by
  simp only [Statement, he]
  exact ⟨selRow m op sel, hr, hm.symm, by simp [selRow_selects]⟩

theorem nop : Statement .nop := of_opRow "nop" rfl rfl (by decide)
theorem crcInit : Statement .crcInit := of_opRow "crc.init" rfl rfl (by decide)
theorem crcByte (b : Byte) : Statement (.crcByte b) := of_opRow "crc.byte" rfl rfl (by decide)
theorem crcBit (d : BitVec 1) : Statement (.crcBit d) := of_opRow "crc.bit" rfl rfl (by decide)
theorem frEncw (w : Word16) : Statement (.frEncw w) := of_opRow "fr.encw" rfl rfl (by decide)
theorem frDecw (t0 t1 t2 : Byte) : Statement (.frDecw t0 t1 t2) := of_opRow "fr.decw" rfl rfl (by decide)
theorem frEncIaqInit : Statement .frEncIaqInit := of_selRow "fr.enc_iaq_init" rfl rfl (by decide)
theorem frEncMeasureIaq : Statement .frEncMeasureIaq := of_selRow "fr.enc_measure_iaq" rfl rfl (by decide)
theorem frEncGetIaqBaseline : Statement .frEncGetIaqBaseline := of_selRow "fr.enc_get_iaq_baseline" rfl rfl (by decide)
theorem frEncSetIaqBaseline (co2 tvoc : Word16) : Statement (.frEncSetIaqBaseline co2 tvoc) := of_selRow "fr.enc_set_iaq_baseline" rfl rfl (by decide)
theorem frEncGetSerialId : Statement .frEncGetSerialId := of_selRow "fr.enc_get_serial_id" rfl rfl (by decide)
theorem frEncGetFeatureset : Statement .frEncGetFeatureset := of_selRow "fr.enc_get_featureset" rfl rfl (by decide)
theorem frDecIaqInit : Statement .frDecIaqInit := of_selRow "fr.dec_iaq_init" rfl rfl (by decide)
theorem frDecMeasureIaq (r : List Byte) : Statement (.frDecMeasureIaq r) := of_selRow "fr.dec_measure_iaq" rfl rfl (by decide)
theorem frDecGetIaqBaseline (r : List Byte) : Statement (.frDecGetIaqBaseline r) := of_selRow "fr.dec_get_iaq_baseline" rfl rfl (by decide)
theorem frDecSetIaqBaseline : Statement .frDecSetIaqBaseline := of_selRow "fr.dec_set_iaq_baseline" rfl rfl (by decide)
theorem frDecGetSerialId (r : List Byte) : Statement (.frDecGetSerialId r) := of_selRow "fr.dec_get_serial_id" rfl rfl (by decide)
theorem frDecGetFeatureset (r : List Byte) : Statement (.frDecGetFeatureset r) := of_selRow "fr.dec_get_featureset" rfl rfl (by decide)
theorem frChkfs (w : Word16) : Statement (.frChkfs w) := of_opRow "fr.chkfs" rfl rfl (by decide)
theorem reservedOp9 : Statement .reservedOp9 := of_opRow "reserved_op_0x9" rfl rfl (by decide)
theorem reservedOpA : Statement .reservedOpA := of_opRow "reserved_op_0xA" rfl rfl (by decide)
theorem reservedOpB : Statement .reservedOpB := of_opRow "reserved_op_0xB" rfl rfl (by decide)
theorem reservedOpC : Statement .reservedOpC := of_opRow "reserved_op_0xC" rfl rfl (by decide)
theorem reservedOpD : Statement .reservedOpD := of_opRow "reserved_op_0xD" rfl rfl (by decide)
theorem reservedOpE : Statement .reservedOpE := of_opRow "reserved_op_0xE" rfl rfl (by decide)
theorem reservedOpF : Statement .reservedOpF := of_opRow "reserved_op_0xF" rfl rfl (by decide)
theorem reservedEncSel6 : Statement .reservedEncSel6 := of_selRow "reserved_fr.enc_sel_6" rfl rfl (by decide)
theorem reservedEncSel7 : Statement .reservedEncSel7 := of_selRow "reserved_fr.enc_sel_7" rfl rfl (by decide)
theorem reservedEncSel8 : Statement .reservedEncSel8 := of_selRow "reserved_fr.enc_sel_8" rfl rfl (by decide)
theorem reservedEncSel9 : Statement .reservedEncSel9 := of_selRow "reserved_fr.enc_sel_9" rfl rfl (by decide)
theorem reservedEncSel10 : Statement .reservedEncSel10 := of_selRow "reserved_fr.enc_sel_10" rfl rfl (by decide)
theorem reservedEncSel11 : Statement .reservedEncSel11 := of_selRow "reserved_fr.enc_sel_11" rfl rfl (by decide)
theorem reservedEncSel12 : Statement .reservedEncSel12 := of_selRow "reserved_fr.enc_sel_12" rfl rfl (by decide)
theorem reservedEncSel13 : Statement .reservedEncSel13 := of_selRow "reserved_fr.enc_sel_13" rfl rfl (by decide)
theorem reservedEncSel14 : Statement .reservedEncSel14 := of_selRow "reserved_fr.enc_sel_14" rfl rfl (by decide)
theorem reservedEncSel15 : Statement .reservedEncSel15 := of_selRow "reserved_fr.enc_sel_15" rfl rfl (by decide)
theorem reservedDecSel6 : Statement .reservedDecSel6 := of_selRow "reserved_fr.dec_sel_6" rfl rfl (by decide)
theorem reservedDecSel7 : Statement .reservedDecSel7 := of_selRow "reserved_fr.dec_sel_7" rfl rfl (by decide)
theorem reservedDecSel8 : Statement .reservedDecSel8 := of_selRow "reserved_fr.dec_sel_8" rfl rfl (by decide)
theorem reservedDecSel9 : Statement .reservedDecSel9 := of_selRow "reserved_fr.dec_sel_9" rfl rfl (by decide)
theorem reservedDecSel10 : Statement .reservedDecSel10 := of_selRow "reserved_fr.dec_sel_10" rfl rfl (by decide)
theorem reservedDecSel11 : Statement .reservedDecSel11 := of_selRow "reserved_fr.dec_sel_11" rfl rfl (by decide)
theorem reservedDecSel12 : Statement .reservedDecSel12 := of_selRow "reserved_fr.dec_sel_12" rfl rfl (by decide)
theorem reservedDecSel13 : Statement .reservedDecSel13 := of_selRow "reserved_fr.dec_sel_13" rfl rfl (by decide)
theorem reservedDecSel14 : Statement .reservedDecSel14 := of_selRow "reserved_fr.dec_sel_14" rfl rfl (by decide)
theorem reservedDecSel15 : Statement .reservedDecSel15 := of_selRow "reserved_fr.dec_sel_15" rfl rfl (by decide)
theorem sensorIaqInit : Statement .sensorIaqInit := rfl
theorem sensorMeasureIaq : Statement .sensorMeasureIaq := rfl
theorem sensorGetIaqBaseline : Statement .sensorGetIaqBaseline := rfl
theorem sensorSetIaqBaseline : Statement .sensorSetIaqBaseline := rfl
theorem sensorGetSerialId : Statement .sensorGetSerialId := rfl
theorem sensorGetFeatureset : Statement .sensorGetFeatureset := rfl

end Sys2Proof.Laws.OwnRow
end

