-- ==== Sys2Proof/Laws/Step.lean ====
section
/-! SUPPORT. What one step can do, once: the cases of `runFetched`, `clockEdge` and `step`. -/

namespace Sys2Proof.Machine

@[simp] theorem runFetched_request (w : Request) (s : State) :
    runFetched (.request w) s = exec (decodeRequest w) s := rfl

theorem runFetched_command (k : Word16) (s : State) :
    (∃ i, decodeCommand k = some i ∧ runFetched (.command k) s = exec i s) ∨
    (decodeCommand k = none ∧ runFetched (.command k) s = badInput s) := by
  unfold runFetched decode
  cases h : decodeCommand k with
  | some i => exact .inl ⟨i, rfl, by simp [h]⟩
  | none => exact .inr ⟨rfl, by simp [h]⟩

/-- What acceptance at a clock edge can do: start a SERIAL byte, or execute (10_state R30). -/
theorem acceptAtEdge_cases (w : Request) (s : State) :
    (∃ b, s.build.crcImpl = .serial ∧ decodeRequest w = .crcByte b ∧
      acceptAtEdge w s = .next (startByte b s)) ∨
    ((s.build.crcImpl = .parallel ∨ ∀ b, decodeRequest w ≠ .crcByte b) ∧
      acceptAtEdge w s = exec (decodeRequest w) s) := by
  unfold acceptAtEdge
  split
  · next b h1 h2 => exact .inl ⟨b, h1, h2, rfl⟩
  · next i h =>
    refine .inr ⟨?_, rfl⟩
    cases h1 : s.build.crcImpl with
    | parallel => exact .inl rfl
    | serial => exact .inr fun b hb => h b h1 hb

/-- What one clock edge can do (10_state R30, R33; 70_reset_and_hazards R111). -/
theorem clockEdge_cases (p : Pins) (rest : List Event) (s : State) :
    (p.rst = true ∧ clockEdge p rest s = .next (takeReset { s with inbox := rest })) ∨
    (p.rst = false ∧ s.inProgress = true ∧
      clockEdge p rest s = .next (advanceByte { s with inbox := rest })) ∨
    (p.rst = false ∧ s.inProgress = false ∧ p.reqValid = true ∧
      clockEdge p rest s = acceptAtEdge p.req (accept rest s)) ∨
    (p.rst = false ∧ s.inProgress = false ∧ p.reqValid = false ∧
      clockEdge p rest s = .next (idle { s with inbox := rest })) := by
  unfold clockEdge
  cases p.rst <;> cases s.inProgress <;> cases p.reqValid <;> simp

theorem step_reset {s : State} {rest : List Event} (h : s.inbox = .reset :: rest) :
    step s = .next (takeReset { s with inbox := rest }) := by
  simp [step, serveEvent, h]

theorem step_clock {s : State} {p : Pins} {rest : List Event} (h : s.inbox = .clock p :: rest) :
    step s = clockEdge p rest s := by
  simp [step, serveEvent, h]

/-- A request or a bus event waits while a byte is in progress, and so does an empty list (10_state R30). -/
theorem step_held {s : State} (hp : s.inProgress = true)
    (h : ∀ e rest, s.inbox = e :: rest → e ≠ .reset ∧ ∀ p, e ≠ .clock p) : step s = .next (advanceByte s) := by
  unfold step serveEvent
  split
  · next rest e => exact absurd rfl (h _ _ e).1
  · next p rest e => exact absurd rfl ((h _ _ e).2 p)
  all_goals simp [hp]

theorem step_finish {s : State} {ms : Nat} {rest : List Event} (h : s.inbox = .finish ms :: rest)
    (hp : s.inProgress = false) : step s = endTransaction ms (accept rest s) := by
  simp [step, serveEvent, h, hp]

theorem step_abandon {s : State} {rest : List Event} (h : s.inbox = .abandon :: rest)
    (hp : s.inProgress = false) : step s = abandonTransaction (accept rest s) := by
  simp [step, serveEvent, h, hp]

theorem step_constructed {s : State} {rest : List Event} (h : s.inbox = .constructed :: rest)
    (hp : s.inProgress = false) : step s = renewHandle (accept rest s) := by
  simp [step, serveEvent, h, hp]

theorem step_idle {s : State} (h : s.inbox = []) (hp : s.inProgress = false) : step s = .next (idle s) := by
  simp [step, serveEvent, h, hp]

/-- The word placed for the next step is the word the next step fetches. -/
theorem step_presentFetched (f : Fetched) (s : State) :
    step (presentFetched f s) =
      runFetched f (accept s.inbox { s with serialCount := 0#3, serialByte := 0#8, serialReg := 0#8 }) := by
  cases f <;> rfl

end Sys2Proof.Machine
end

