-- ==== Sys2Proof/Laws/Safety.lean ====
section
/-! SUPPORT. Small facts about legal responses and the invariant. -/

namespace Sys2Proof.Machine

/-- A response with only a status and the register is legal, unless the status is the host's (60_exceptions R96, R97). -/
theorem legalResponse_bare (st : Status) (c : Byte) (h : st ≠ .transportError) :
    legalResponse (bareResponse st c) = true := by
  cases st <;> simp_all [legalResponse, bareResponse, payloadPadded]

/-- Outside a byte in progress the hidden serial state is clear (10_state R34). -/
theorem serialInv_of_not_inProgress {s : State} (hp : s.inProgress = false) :
    serialInv s = true ↔ s.serialByte = 0#8 ∧ s.serialReg = 0#8 := by
  simp [serialInv, hp]

end Sys2Proof.Machine
end

