-- ==== Sys2Proof/Tests/Slice0.lean ====
section
/-! SUPPORT. Tests and witnesses. Expected values are the spec's: the encodings of 30_encoding R50 and R52, the vectors of
95_test_vectors (V1 to V25) and the trace of 40_crc R67. Witnesses show that the hypotheses of the statements can be met. -/

-- One thread per theorem would reserve more stack space than the check allows.
set_option Elab.async false

namespace Sys2Proof.Tests

open Sys2Proof Sys2Proof.Machine

/-! ### WellFormed refuses -/

theorem test_wf_refuses_short_measure_reply : (Instr.frDecMeasureIaq [1#8, 2#8, 3#8, 4#8, 5#8]).wellFormed = false := by
  decide
theorem test_wf_refuses_long_baseline_reply :
    (Instr.frDecGetIaqBaseline [1#8, 2#8, 3#8, 4#8, 5#8, 6#8, 7#8]).wellFormed = false := by decide
theorem test_wf_refuses_six_byte_serial_reply :
    (Instr.frDecGetSerialId [1#8, 2#8, 3#8, 4#8, 5#8, 6#8]).wellFormed = false := by decide
theorem test_wf_refuses_empty_featureset_reply : (Instr.frDecGetFeatureset []).wellFormed = false := by decide
theorem test_asm_refuses_operands_out_of_range :
    [AsmLine.crcByte 256, .crcBit 2, .frEncw 65536, .frDecw 0 256 0, .frEncSetBaseline 0 65536, .frDec .getFeatureset [1, 2],
      .frDec .getFeatureset [1, 2, 256], .frChkfs 65536, .crcCalc [], .crcCalc [256], .crcWord 65536, .crcBits8 256].map
      AsmLine.wellFormed = List.replicate 12 false := by decide

/-! ### Decoding: one word per constructor, written out from 30_encoding R50 and R52 -/

theorem test_decode_crcg :
    [0x00000000000000000000, 0x10000000000000000000, 0x200000000000000000BE, 0x2FFFFFFFFFFFFFFFFFBE, 0x30000000000000000001].map
      (decodeTableWord 80) =
    [some .nop, some .crcInit, some (.crcByte 0xBE#8), some (.crcByte 0xBE#8), some (.crcBit 1#1)] := by decide +kernel

theorem test_decode_framer_words :
    [0x4000000000000000BEEF, 0x53BEEF92FFFFFFFFFFFF, 0x85FFFFFFFFFFFFFF0020].map
      (decodeTableWord 80) =
    [some (.frEncw 0xBEEF#16), some (.frDecw 0xBE#8 0xEF#8 0x92#8), some (.frChkfs 0x0020#16)] := by decide +kernel

theorem test_decode_command_frames :
    [0x60000000000000000000, 0x61000000000000000000, 0x62000000000000000000, 0x63000000000012345555, 0x64000000000000000000, 0x65000000000000000000].map
      (decodeTableWord 80) =
    [some .frEncIaqInit, some .frEncMeasureIaq, some .frEncGetIaqBaseline, some (.frEncSetIaqBaseline 0x1234#16 0x5555#16), some .frEncGetSerialId, some .frEncGetFeatureset] := by decide +kernel

theorem test_decode_reply_frames :
    [0x70000000000000000000, 0x7101904C000081000000, 0x728F4BEC9B1DD9000000, 0x73000000000000000000, 0x740000810001B08973CA, 0x75002007DEADBEEF0000].map
      (decodeTableWord 80) =
    [some .frDecIaqInit, some (.frDecMeasureIaq [0x01#8, 0x90#8, 0x4C#8, 0x00#8, 0x00#8, 0x81#8]), some (.frDecGetIaqBaseline [0x8F#8, 0x4B#8, 0xEC#8, 0x9B#8, 0x1D#8, 0xD9#8]), some .frDecSetIaqBaseline, some (.frDecGetSerialId [0x00#8, 0x00#8, 0x81#8, 0x00#8, 0x01#8, 0xB0#8, 0x89#8, 0x73#8, 0xCA#8]), some (.frDecGetFeatureset [0x00#8, 0x20#8, 0x07#8])] := by decide +kernel

theorem test_decode_reserved_ops :
    [0x9F000000000000000000, 0xAF000000000000000000, 0xBF000000000000000000, 0xCF000000000000000000, 0xDF000000000000000000, 0xEF000000000000000000, 0xFF000000000000000000].map
      (decodeTableWord 80) =
    [some .reservedOp9, some .reservedOpA, some .reservedOpB, some .reservedOpC, some .reservedOpD, some .reservedOpE, some .reservedOpF] := by decide +kernel

theorem test_decode_reserved_enc_selectors :
    [0x66000000000000000000, 0x67000000000000000000, 0x68000000000000000000, 0x69000000000000000000, 0x6A000000000000000000, 0x6B000000000000000000, 0x6C000000000000000000, 0x6D000000000000000000, 0x6E000000000000000000, 0x6F000000000000000000].map
      (decodeTableWord 80) =
    [some .reservedEncSel6, some .reservedEncSel7, some .reservedEncSel8, some .reservedEncSel9, some .reservedEncSel10, some .reservedEncSel11, some .reservedEncSel12, some .reservedEncSel13, some .reservedEncSel14, some .reservedEncSel15] := by decide +kernel

theorem test_decode_reserved_dec_selectors :
    [0x76000000000000000000, 0x77000000000000000000, 0x78000000000000000000, 0x79000000000000000000, 0x7A000000000000000000, 0x7B000000000000000000, 0x7C000000000000000000, 0x7D000000000000000000, 0x7E000000000000000000, 0x7F000000000000000000].map
      (decodeTableWord 80) =
    [some .reservedDecSel6, some .reservedDecSel7, some .reservedDecSel8, some .reservedDecSel9, some .reservedDecSel10, some .reservedDecSel11, some .reservedDecSel12, some .reservedDecSel13, some .reservedDecSel14, some .reservedDecSel15] := by decide +kernel

theorem test_decode_sensor_commands :
    [0x2003, 0x2008, 0x2015, 0x201E, 0x3682, 0x202F, 0x0320].map
      (decodeTableWord 16) =
    [some .sensorIaqInit, some .sensorMeasureIaq, some .sensorGetIaqBaseline, some .sensorSetIaqBaseline, some .sensorGetSerialId, some .sensorGetFeatureset, none] := by decide +kernel

/-! ### One step per request (vectors V5 to V23) -/

/-- The response of one step from reset with the register at `c`: status code, `crc`, `len`, `payload`. -/
def respond (c : Byte) (w : Nat) : Option (BitVec 3 × Byte × BitVec 4 × Field72) :=
  match step ({ State.reset with crc := c }.withFetchWord 80 w) with
  | .next t => t.resp.map fun r => (r.status.code, r.crc, r.len, r.payload)
  | .fault _ => none
  | .refused _ => none

/-- The FR.ENC fields of one step's response: `rxw`, `delay_ms`, `addr`. -/
def respondBus (w : Nat) : Option (BitVec 2 × BitVec 8 × BitVec 7) :=
  match step (State.reset.withFetchWord 80 w) with
  | .next t => t.resp.map fun r => (r.rxw, r.delayMs, r.addr)
  | .fault _ => none
  | .refused _ => none

/-- V24 row 7. -/
theorem test_nop_reports : respond 0x92#8 0x00000000000000000000 = some (0#3, 0x92#8, 0#4, 0x000000000000000000#72) := by
  decide +kernel
/-- 40_crc R68. -/
theorem test_crc_init : respond 0x92#8 0x10000000000000000000 = some (0#3, 0xFF#8, 0#4, 0x000000000000000000#72) := by
  decide +kernel
/-- V5. -/
theorem test_crc_byte : respond 0x0C#8 0x200000000000000000EF = some (0#3, 0x92#8, 0#4, 0x000000000000000000#72) := by
  decide +kernel
/-- V19 row 2. -/
theorem test_crc_byte_ignores_other_bits : respond 0xFF#8 0x2FFFFFFFFFFFFFFFFFBE = some (0#3, 0x0C#8, 0#4, 0x000000000000000000#72) := by
  decide +kernel
/-- V8. -/
theorem test_crc_bit_one : respond 0x80#8 0x30000000000000000001 = some (0#3, 0x00#8, 0#4, 0x000000000000000000#72) := by
  decide +kernel
/-- V8. -/
theorem test_crc_bit_zero : respond 0xFF#8 0x30000000000000000000 = some (0#3, 0xCF#8, 0#4, 0x000000000000000000#72) := by
  decide +kernel
/-- V19 row 4. -/
theorem test_encw : respond 0xFF#8 0x4FFFFFFFFFFFFFFFBEEF = some (0#3, 0xFF#8, 3#4, 0xBEEF92000000000000#72) := by
  decide +kernel
/-- V14 row 7. -/
theorem test_decw : respond 0xFF#8 0x50FF0000000000000000 = some (0#3, 0xFF#8, 2#4, 0xFF0000000000000000#72) := by
  decide +kernel
/-- V14 row 5. -/
theorem test_decw_mismatch : respond 0xFF#8 0x50BEEF93000000000000 = some (1#3, 0xFF#8, 0#4, 0x000000000000000000#72) := by
  decide +kernel
/-- V15 row 1. -/
theorem test_enc_iaq_init : respond 0xFF#8 0x60000000000000000000 = some (0#3, 0xFF#8, 2#4, 0x200300000000000000#72) := by
  decide +kernel
/-- V15 row 2. -/
theorem test_enc_measure : respond 0xFF#8 0x61000000000000000000 = some (0#3, 0xFF#8, 2#4, 0x200800000000000000#72) := by
  decide +kernel
/-- V15 row 3. -/
theorem test_enc_get_baseline : respond 0xFF#8 0x62000000000000000000 = some (0#3, 0xFF#8, 2#4, 0x201500000000000000#72) := by
  decide +kernel
/-- V16. -/
theorem test_enc_set_baseline : respond 0xFF#8 0x6300000000008F4B9B1D = some (0#3, 0xFF#8, 8#4, 0x201E9B1DD98F4BEC00#72) := by
  decide +kernel
/-- V17 row 1. -/
theorem test_enc_set_baseline_zero : respond 0xFF#8 0x63000000000000000000 = some (2#3, 0xFF#8, 0#4, 0x000000000000000000#72) := by
  decide +kernel
/-- V24 row 5. -/
theorem test_enc_get_serial : respond 0x0C#8 0x64000000000000000000 = some (0#3, 0x0C#8, 2#4, 0x368200000000000000#72) := by
  decide +kernel
/-- V15 row 6. -/
theorem test_enc_get_featureset : respond 0xFF#8 0x65000000000000000000 = some (0#3, 0xFF#8, 2#4, 0x202F00000000000000#72) := by
  decide +kernel
/-- V20 row 1. -/
theorem test_dec_iaq_init : respond 0xFF#8 0x70000000000000000000 = some (0#3, 0xFF#8, 0#4, 0x000000000000000000#72) := by
  decide +kernel
/-- V22, swapped triples. -/
theorem test_dec_measure : respond 0xFF#8 0x7100008101904C000000 = some (0#3, 0xFF#8, 4#4, 0x000001900000000000#72) := by
  decide +kernel
/-- V24 row 4. -/
theorem test_dec_measure_second_bad : respond 0x0C#8 0x7101904C000080000000 = some (1#3, 0x0C#8, 0#4, 0x000000000000000000#72) := by
  decide +kernel
/-- V20 row 3. -/
theorem test_dec_get_baseline : respond 0xFF#8 0x728F4BEC9B1DD9000000 = some (0#3, 0xFF#8, 4#4, 0x8F4B9B1D0000000000#72) := by
  decide +kernel
/-- V20 row 4. -/
theorem test_dec_set_baseline : respond 0xFF#8 0x73000000000000000000 = some (0#3, 0xFF#8, 0#4, 0x000000000000000000#72) := by
  decide +kernel
/-- V20 row 5. -/
theorem test_dec_get_serial : respond 0xFF#8 0x740000810001B08973CA = some (0#3, 0xFF#8, 6#4, 0x000000018973000000#72) := by
  decide +kernel
/-- V21 row 3. -/
theorem test_dec_featureset_ignores_rest : respond 0xFF#8 0x75002007DEADBEEF0000 = some (0#3, 0xFF#8, 2#4, 0x002000000000000000#72) := by
  decide +kernel
/-- V19 row 6. -/
theorem test_chkfs : respond 0xFF#8 0x85FFFFFFFFFFFFFF0020 = some (0#3, 0xFF#8, 0#4, 0x000000000000000000#72) := by
  decide +kernel
/-- V23 row 6. -/
theorem test_chkfs_high_bit_counts : respond 0xFF#8 0x80000000000000001020 = some (3#3, 0xFF#8, 0#4, 0x000000000000000000#72) := by
  decide +kernel
/-- V18 row 3. -/
theorem test_reserved_op : respond 0xFF#8 0xF0FFFFFFFFFFFFFFFFFF = some (7#3, 0xFF#8, 0#4, 0x000000000000000000#72) := by
  decide +kernel
/-- V18 row 1. -/
theorem test_reserved_enc_selector : respond 0xFF#8 0x66000000000000000000 = some (7#3, 0xFF#8, 0#4, 0x000000000000000000#72) := by
  decide +kernel
/-- V18 row 4. -/
theorem test_reserved_dec_selector : respond 0xFF#8 0x7C000000000000000000 = some (7#3, 0xFF#8, 0#4, 0x000000000000000000#72) := by
  decide +kernel
/-- V15 rows 2, 4, 5: reply words, delay and the default address. -/
theorem test_enc_bus_fields :
    [0x61000000000000000000, 0x63000000000012345555, 0x64000000000000000000].map respondBus =
    [some (2#2, 50#8, 0x58#7), some (0#2, 10#8, 0x58#7), some (3#2, 10#8, 0x58#7)] := by decide +kernel

/-- 70_reset_and_hazards R119: a sensor opcode takes the one transaction slot. -/
theorem test_sensor_command_takes_slot :
    (match step (State.reset.withFetchWord 16 0x2008) with
      | .next t => t.slot == some .measureIaq && t.crc == 0xFF#8 && t.resp.isNone
      | .fault _ => false
      | .refused _ => false) = true := by decide +kernel

/-! ### CRC functions -/

/-- V2: the check value and the runs of zeros. -/
theorem test_crc_check_values :
    [[0x31#8, 0x32#8, 0x33#8, 0x34#8, 0x35#8, 0x36#8, 0x37#8, 0x38#8, 0x39#8], [0#8], [0#8, 0#8], [0#8, 0#8, 0#8],
      [0xFF#8]].map crc8 = [0xF7#8, 0xAC#8, 0x81#8, 0x4B#8, 0x00#8] := by decide +kernel

/-- 40_crc R67: the serial register and the loop pass through different values for 0xFF and 0xBE. -/
theorem test_intermediate_values_differ :
    [1, 2, 3, 4, 5, 6, 7, 8].map (feedBits 0xFF#8 0xBE#8) =
      [0xFE#8, 0xCD#8, 0x9A#8, 0x34#8, 0x59#8, 0x83#8, 0x06#8, 0x0C#8] ∧
    [1, 2, 3, 4, 5, 6, 7, 8].map (fun n => shiftSteps n (0xFF#8 ^^^ 0xBE#8)) =
      [0x82#8, 0x35#8, 0x6A#8, 0xD4#8, 0x99#8, 0x03#8, 0x06#8, 0x0C#8] := by decide +kernel

/-! ### Witnesses: the hypotheses of the statements can be met -/

/-- A SERIAL block three bits into folding 0xBE (40_crc R67), with a request waiting. -/
def midByte : State :=
  { State.resetOf ⟨.serial, 0x58#7⟩ with
    serialCount := 3#3, serialByte := 0xBE#8, serialReg := 0x9A#8, inbox := [.request 0#80] }

/-- A SERIAL block out of reset, with these events to come. -/
def serialWith (es : List Event) : State := { State.resetOf ⟨.serial, 0x58#7⟩ with inbox := es }

/-- The default block out of reset, with these events to come. -/
def resetWith (es : List Event) : State := { State.reset with inbox := es }

/-- A state in which MEASURE_IAQ is in flight. -/
def measuring (es : List Event) : State := { State.reset with inbox := es, slot := some .measureIaq }

/-- 40_crc R67: one more cycle takes the serial register from 0x9A to 0x34; the request waits and `crc` is as before. -/
theorem test_serial_cycle :
    (match step midByte with
      | .next t => t.serialCount == 4#3 && t.serialReg == 0x34#8 && t.crc == 0xFF#8 && t.resp.isNone && !t.reqReady
          && t.inbox == [.request 0#80]
      | .fault _ => false
      | .refused _ => false) = true := by decide +kernel

theorem witness_DecodeOfEncode : (Instr.frDecGetFeatureset [0x00#8, 0x20#8, 0x07#8]).wellFormed = true := by decide

theorem witness_SelIsIgnoredByEveryOtherOp :
    (0x5#4 ≠ 0x6#4 ∧ 0x5#4 ≠ 0x7#4) ∧ (0x6#4 = 0x6#4 ∨ 0x6#4 = 0x7#4) ∧ 6 ≤ (6#4).toNat ∧ 6 ≤ (15#4).toNat := by decide

theorem witness_DecodedInstructionsAreWellFormed : decodeCommand 0x2003#16 = some .sensorIaqInit := by decide

theorem witness_ByteSequencesAreLeftAligned :
    [1#8, 2#8, 3#8, 4#8, 5#8, 6#8, 7#8, 8#8, 9#8].length ≤ 9 ∧
    some ((packLeft [1#8, 2#8, 3#8, 4#8, 5#8, 6#8, 7#8, 8#8, 9#8]).extractLsb' (64 - 8 * 8) 8) = some 9#8 := by
  decide +kernel

/-- 30_encoding R59, R60, written out at the edges of the ranges. -/
theorem test_assembled_words :
    [AsmLine.crcByte 255, .crcBit 1, .frDecw 0xBE 0xEF 0x92, .frEncSetBaseline 0x1234 0x5555, .frDec .getFeatureset [0, 32, 7],
      .crcWord 0xBEEF].map assemble =
    [some [.request 0x200000000000000000FF#80], some [.request 0x30000000000000000001#80],
      some [.request 0x50BEEF92000000000000#80], some [.request 0x63000000000012345555#80],
      some [.request 0x75002007000000000000#80],
      some [.request 0x200000000000000000BE#80, .request 0x200000000000000000EF#80]] := by decide +kernel

theorem witness_AssembledLinesDecodeToTheirExpansion :
    (AsmLine.crcByte 256).wellFormed = false ∧ (AsmLine.frDec .getFeatureset [0, 32, 255]).wellFormed = true ∧
    ∃ fs : List Fetched, assemble (.crcBits8 0xEF) = some fs := ⟨by decide, by decide, _, rfl⟩

theorem witness_PackedResponseIsReadBack :
    (∃ r : Response, unpackResponse 0#104 = .ok r) ∧
    (5#3 ++ 0#101 : BitVec 104).extractLsb' 101 3 = 5#3 ∧ (6#3 ++ 0#101 : BitVec 104).extractLsb' 101 3 = 6#3 :=
  ⟨⟨_, rfl⟩, by decide, by decide⟩

theorem witness_CrcInitLoadsInitialValue : ∃ t : State, exec .crcInit State.reset = .next t := ⟨_, rfl⟩

theorem witness_CrcBitFoldsOneBit :
    0xFE#8 = (if ((0xFF#8).getLsbD 7 ^^ (1#1).getLsbD 0) = true then ((0xFF#8 : Byte) <<< 1) ^^^ 0x31#8
      else (0xFF#8 : Byte) <<< 1) := by decide

/-- 0xEF by eight CRC.BITs, most significant bit first (30_encoding R60). -/
def efBits : List Request :=
  [0x30000000000000000001#80, 0x30000000000000000001#80, 0x30000000000000000001#80, 0x30000000000000000000#80,
    0x30000000000000000001#80, 0x30000000000000000001#80, 0x30000000000000000001#80, 0x30000000000000000001#80]

theorem efBits_carry : Carries (efBits ++ []) [0xEF#8] :=
  have h : (efBits.map decodeRequest).filter writesCrc = bitInstrs 0xEF#8 := by decide +kernel
  .bits h .done

/-- The stream CRC.BYTE 0xBE, FR.ENCW 0x1234, and 0xEF by bits. -/
def beefStream : List Request :=
  0x200000000000000000BE#80 :: 0x40000000000000001234#80 :: (efBits ++ [])

theorem beefStream_carries : Carries beefStream [0xBE#8, 0xEF#8] :=
  .byte (by decide) (.quiet (by decide) efBits_carry)

theorem witness_StreamEndsWithSequenceCrc :
    (Carries beefStream [0xBE#8, 0xEF#8] ∧ (resetWith (beefStream.map Event.request ++ [])).inProgress = false ∧
      (resetWith (beefStream.map Event.request ++ [])).crc = 0xFF#8) ∧
    decodeRequest 0x10000000000000000000#80 = .crcInit :=
  ⟨⟨beefStream_carries, rfl, rfl⟩, by decide⟩

theorem witness_FramerIsStateless :
    (Instr.frChkfs 0x0021#16).isRequest = true ∧ writesCrc (.frChkfs 0x0021#16) = false ∧
    State.reset.build.devAddr = 0x58#7 := by decide

theorem witness_TripleIsDecodedOrRefusedWhole :
    crc8 [0xBE#8, 0xEF#8] = 0x92#8 ∧ crc8 [0xBE#8, 0xEF#8] ≠ 0x93#8 := by decide +kernel

theorem witness_WordRoundTrip : ∃ (t : State) (r : Response), exec (.frEncw 0xBEEF#16) State.reset = .next t ∧
    t.resp = some r := ⟨_, _, rfl, rfl⟩

theorem witness_EverySingleBitErrorIsDetected :
    (0 < 24 ∧ (decWord 0xBE#8 0xEF#8 0x93#8).1 = false) ∧ (23 < 24 ∧ (decWord 0x3E#8 0xEF#8 0x92#8).1 = false) := by
  decide +kernel

theorem witness_SetBaselineSendsTvocFirst : ¬((0#16 : Word16) = 0#16 ∧ (1#16 : Word16) = 0#16) := by decide

theorem witness_ZeroBaselineIsRejectedBeforeTheBus : (1#16 : Word16) ≠ 0#16 := by decide

theorem witness_ReplyFrameIsCheckedTripleByTriple :
    List.Perm [(0x01#8, 0x90#8, 0x4C#8), (0x00#8, 0x00#8, 0x81#8)]
      [(0x00#8, 0x00#8, 0x81#8), (0x01#8, 0x90#8, 0x4C#8)] ∧
    decFrame 2 [0x01#8, 0x90#8, 0x4C#8, 0x00#8, 0x00#8, 0x81#8] = some [0x0190#16, 0x0000#16] :=
  ⟨List.Perm.swap _ _ _, by decide +kernel⟩

theorem witness_TwoWordRepliesAreAllOrNothing :
    (crc8 [0x01#8, 0x90#8] = 0x4C#8 ∧ crc8 [0x00#8, 0x00#8] = 0x81#8) ∧
    ¬(crc8 [0x01#8, 0x90#8] = 0x4C#8 ∧ crc8 [0x00#8, 0x00#8] = 0x80#8) := by decide +kernel

theorem witness_SerialAndFeaturesetRepliesAreAllOrNothing :
    (crc8 [0x00#8, 0x00#8] = 0x81#8 ∧ crc8 [0x00#8, 0x01#8] = 0xB0#8 ∧ crc8 [0x89#8, 0x73#8] = 0xCA#8) ∧
    ¬(crc8 [0x00#8, 0x00#8] = 0x81#8 ∧ crc8 [0x00#8, 0x01#8] = 0xB0#8 ∧ crc8 [0x89#8, 0x73#8] = 0xCB#8) ∧
    crc8 [0x00#8, 0x20#8] = 0x07#8 ∧ crc8 [0x00#8, 0x20#8] ≠ 0x06#8 := by decide +kernel

theorem witness_OnlyTheExpectedIdentityPasses : (0x0021#16 : Word16) ≠ 0x0020#16 := by decide

theorem witness_ReservedEncodingsGiveIllegalOp :
    (Instr.reservedOpF ∈ [Instr.reservedOp9, .reservedOpF]) ∧ 9 ≤ (9#4).toNat ∧ 9 ≤ (15#4).toNat ∧
    ((0x7#4 = 0x6#4 ∨ 0x7#4 = 0x7#4) ∧ 6 ≤ (6#4).toNat) := by decide

theorem witness_ErrorStatusChangesNothing : ∃ (t : State) (r : Response), Instr.reservedOp9.isRequest = true ∧
    exec .reservedOp9 State.reset = .next t ∧ t.resp = some r ∧ r.status ≠ .ok :=
  ⟨_, _, rfl, rfl, rfl, by decide⟩

/-- One request for each clause of the statement on statuses, at the edges of the clauses' ranges. -/
theorem witness_StatusesOfEachOp :
    [mkRequest 0#4 0#4 0#72, mkRequest 4#4 15#4 0#72, mkRequest 5#4 0#4 0#72, mkRequest 6#4 5#4 0#72,
      mkRequest 6#4 3#4 0#72, mkRequest 7#4 0#4 0#72, mkRequest 7#4 3#4 0#72, mkRequest 7#4 1#4 0#72,
      mkRequest 7#4 5#4 0#72, mkRequest 6#4 6#4 0#72, mkRequest 7#4 15#4 0#72, mkRequest 8#4 0#4 0#72,
      mkRequest 9#4 0#4 0#72, mkRequest 15#4 0#4 0#72].map
      (fun w => match exec (decodeRequest w) State.reset with
        | .next t => t.resp.map Response.status
        | .fault _ => none
        | .refused _ => none) =
    [some .ok, some .ok, some .checksumMismatch, some .ok, some .invalidBaseline, some .ok, some .ok,
      some .checksumMismatch, some .checksumMismatch, some .illegalOp, some .illegalOp, some .deviceNotDetected,
      some .illegalOp, some .illegalOp] := by decide +kernel

theorem witness_StepRunsTheDecodedRequest :
    (resetWith [.request 0#80]).inbox = [.request 0#80] ∧ (resetWith [.request 0#80]).inProgress = false := by decide

theorem witness_StepRunsTheDecodedCommand :
    (resetWith [.command 0x2003#16]).inbox = [.command 0x2003#16] ∧
    (resetWith [.command 0x2003#16]).inProgress = false ∧ decodeCommand 0x2003#16 = some .sensorIaqInit ∧
    decodeCommand 0x2004#16 = none := by decide

theorem witness_EveryRequestIsAnswered :
    (resetWith [.request 0#80]).inbox = [.request 0#80] ∧ (resetWith [.request 0#80]).inProgress = false := by decide

theorem witness_ResetValues : (takeReset State.reset).rst = true := rfl

theorem witness_ResetLoadsInitialValue :
    (resetWith [.reset, .clock ⟨false, false, 0#80⟩]).inbox = [.reset, .clock ⟨false, false, 0#80⟩] ∧
    (serialWith [.clock ⟨true, true, 0#80⟩]).inbox = [.clock ⟨true, true, 0#80⟩] := by decide

theorem witness_ResetAbandonsTheByteInProgress :
    { midByte with inbox := [.reset] }.inv = true ∧ { midByte with inbox := [.reset] }.inProgress = true ∧
    State.reset.build.crcImpl = .parallel ∧ State.reset.inProgress = false ∧
    ∃ t : State, step State.reset = .next t := ⟨by decide +kernel, by decide, rfl, rfl, _, rfl⟩

/-- A SERIAL block whose next eight edges accept and fold 0xBE while the host offers a NOP. -/
def foldingBE : State :=
  serialWith (.clock ⟨false, true, 0x200000000000000000BE#80⟩ ::
    ((List.replicate 7 (Pins.mk false true 0#80)).map Event.clock ++ [.request 0#80]))

theorem witness_SerialByteRefinesAtomicByte :
    decodeRequest 0x200000000000000000BE#80 = .crcByte 0xBE#8 ∧
    (List.replicate 7 (Pins.mk false true 0#80)).length = 7 ∧
    (∀ p ∈ List.replicate 7 (Pins.mk false true 0#80), p.rst = false) ∧
    foldingBE.build.crcImpl = .serial ∧ foldingBE.inProgress = false ∧ foldingBE.serialByte = 0#8 ∧
    foldingBE.serialReg = 0#8 ∧
    foldingBE.inbox = .clock ⟨false, true, 0x200000000000000000BE#80⟩ ::
      ((List.replicate 7 (Pins.mk false true 0#80)).map Event.clock ++ [.request 0#80]) := by decide

theorem witness_OtherRequestsTakeOneCycle :
    (resetWith [.clock ⟨false, true, 0x200000000000000000BE#80⟩]).inProgress = false ∧
    (resetWith []).build.crcImpl = .parallel ∧ ∀ b : Byte, decodeRequest 0#80 ≠ .crcByte b :=
  ⟨by decide, rfl, fun _ h => by cases h⟩

theorem witness_HeldRequestIsReleasedByTheBlock : midByte.inProgress = true ∧ midByte.inbox = [.request 0#80] := by
  decide

theorem witness_CrcOutShowsTheRegister :
    State.reset.inProgress = false ∧ (takeReset State.reset).inv = true ∧ (takeReset State.reset).rst = true := by
  decide +kernel

theorem witness_OnlyResetAndCrcOpsWriteTheRegister :
    writesCrc .nop = false ∧ (∃ t : State, exec .nop State.reset = .next t) ∧
    ∃ t : State, step (resetWith [.request 0x200000000000000000BE#80]) = .next t ∧
      t.crc ≠ (resetWith [.request 0x200000000000000000BE#80]).crc :=
  ⟨rfl, ⟨_, rfl⟩, _, rfl, by decide +kernel⟩

theorem witness_RequestsLeaveTheRestAlone : Instr.crcInit.isRequest = true ∧ ∃ t : State, step State.reset = .next t :=
  ⟨rfl, _, rfl⟩

/-- 70_reset_and_hazards R119: "The block does not check this": a second command goes on, and is recorded. -/
theorem test_second_command_goes_on :
    (match step (measuring [.command 0x2015#16, .request 0#80]) with
      | .next t => t.slot == some .getIaqBaseline && t.untrusted && t.crc == 0xFF#8 && t.inbox == [.request 0#80]
      | .fault _ => false
      | .refused _ => false) = true := by decide +kernel

/-- 91 N10: a wire word that is no command does not stop the block. -/
theorem test_unknown_command_goes_on :
    (match step (resetWith [.command 0x2004#16]) with
      | .next t => t.slot.isNone && t.untrusted && t.crc == 0xFF#8
      | .fault _ => false
      | .refused _ => false) = true := by decide +kernel

/-- The state after one step, by its slot and whether the handle is trusted. -/
def busAfter (s : State) : Option (Option Selector × Bool) :=
  match step s with
  | .next t => some (t.slot, t.untrusted)
  | .fault _ => none
  | .refused _ => none

/-- 70_reset_and_hazards R120: 50 ms for MEASURE_IAQ is a lower bound, with no upper bound. -/
theorem witness_TransactionsEndAfterTheirDelay :
    (measuring [.finish 50]).inProgress = false ∧ (measuring [.finish 50]).slot = some .measureIaq ∧
    [49, 50, 5000].map (fun ms => busAfter (measuring [.finish ms])) =
      [some (some .measureIaq, true), some (none, false), some (none, false)] ∧
    [9, 10].map (fun ms => busAfter { measuring [.finish ms] with slot := some .setIaqBaseline }) =
      [some (some .setIaqBaseline, true), some (none, false)] ∧
    busAfter (resetWith [.command 0x2008#16]) = some (some .measureIaq, false) := by
  decide +kernel

theorem witness_EveryStepGoesOnAndRecordsBrokenBusRules :
    hostObeys (measuring [.abandon]) = false ∧
    (hostObeys { resetWith [] with untrusted := true } = true ∧
      busAfter { resetWith [] with untrusted := true } = some (none, true)) ∧
    busAfter { resetWith [.constructed] with untrusted := true } = some (none, false) ∧
    busAfter { measuring [.constructed] with untrusted := true } = some (some .measureIaq, true) := by
  decide +kernel

/-- The host's recovery: the interrupted transaction, then 70 R122 with each command's least wait. -/
def recovery : List Event :=
  [.abandon, .command 0x3682#16, .finish 10, .command 0x202F#16, .finish 10, .command 0x2003#16, .finish 10, .constructed]

theorem witness_InterruptedTransactionIsRecoveredByConstruction :
    (measuring (recovery ++ [])).inProgress = false ∧ (measuring (recovery ++ [])).slot = some .measureIaq ∧
    (measuring (recovery ++ [])).inbox = recovery ++ [] := by decide

theorem witness_RunCommandReturnsTheReplyWords :
    (rom .measureIaq).replyWords ≠ 0 ∧ [0x0190#16, 0x0000#16].length = (rom .measureIaq).replyWords := by decide

theorem witness_ReadThatNeverReturnsHangsTheHost :
    (rom .getFeatureset).replyWords ≠ 0 ∧ (rom .setIaqBaseline).replyWords = 0 ∧
    ¬((0x0001#16 : Word16) = 0#16 ∧ (0x0000#16 : Word16) = 0#16) := by decide

theorem witness_WrongIdentityStopsConstruction : (0x0022#16 : Word16) ≠ 0x0020#16 := by decide

theorem witness_EveryStepKeepsTheInvariant : midByte.inv = true ∧ ∃ t : State, step midByte = .next t :=
  ⟨by decide +kernel, _, rfl⟩

/-- P2 (95_test_vectors): construction with a good sensor gives the serial number and writes three commands. -/
theorem test_construction_sequence :
    (construct ⟨true, .bytes [0x00#8, 0x00#8, 0x81#8, 0x00#8, 0x01#8, 0xB0#8, 0x89#8, 0x73#8, 0xCA#8]⟩
        ⟨true, .bytes [0x00#8, 0x20#8, 0x07#8]⟩ ⟨true, .never⟩ State.reset).map
      (fun m => (match m.result with | .ok h => some h | .error _ => none | .hang => none,
        m.bus.filter fun a => match a with | .write _ _ => true | .sleep _ => false | .read _ _ => false)) =
    some (some ⟨0x58#7, true, 0x000000018973#48⟩,
      [.write 0x58#7 [0x36#8, 0x82#8], .write 0x58#7 [0x20#8, 0x2F#8], .write 0x58#7 [0x20#8, 0x03#8]]) := by
  decide +kernel

end Sys2Proof.Tests
end

section
/-! PROOFS. The family of 10_state: what the framer leaves behind (R28) and the reset values (R34). -/

namespace Sys2Proof.Machine

/-! ### One response for all states (10_state R28)

The response must be chosen before the state. Each shared completion meets this, and so does a choice between two of
them by a condition on the operands. -/

/-- In all states with `DEV_ADDR = addr` the meaning `f` gives one and the same response, but for the copied `crc`, and
changes nothing but the response port. -/
def OneResponse (addr : BitVec 7) (f : State → Result) : Prop :=
  ∃ r : Response, ∀ s : State, s.build.devAddr = addr → f s = .next { s with resp := some { r with crc := s.crc } }

section
variable {addr : BitVec 7}

theorem oneResponse_acknowledge : OneResponse addr acknowledge :=
  ⟨bareResponse .ok 0#8, fun s _ => acknowledge_eq s⟩

theorem oneResponse_raise (st : Status) : OneResponse addr (raise st) :=
  ⟨bareResponse st 0#8, fun s _ => raise_eq st s⟩

theorem oneResponse_answer (bytes : List Byte) : OneResponse addr (answer bytes) :=
  ⟨bytesResponse bytes 0#8, fun s _ => answer_eq bytes s⟩

/-- The one completion that reads the build: its response carries `DEV_ADDR` (41_framer R81). -/
theorem oneResponse_answerCommand (c : Selector) (payload : List Word16) :
    OneResponse addr (answerCommand c payload) :=
  ⟨{ bytesResponse (commandFrame (rom c).opcode payload) 0#8 with
      rxw := BitVec.ofNat 2 (rom c).replyWords, delayMs := BitVec.ofNat 8 (rom c).delayMs, addr := addr },
    fun s h => by rw [answerCommand_eq, h]; rfl⟩

/-- Whether the reply's checksums match is decided by its bytes (41_framer R84). -/
theorem oneResponse_answerReply (c : Selector) (r : List Byte) : OneResponse addr (answerReply c r) := by
  unfold answerReply
  cases decFrame (rom c).replyWords r with
  | some ws => exact oneResponse_answer (ws.flatMap wordBytes)
  | none => exact oneResponse_raise .checksumMismatch

theorem oneResponse_ite {p : Prop} [Decidable p] {f g : State → Result} (hf : OneResponse addr f)
    (hg : OneResponse addr g) : OneResponse addr (fun s => if p then f s else g s) := by
  by_cases hp : p
  · simpa only [if_pos hp] using hf
  · simpa only [if_neg hp] using hg

/-- Every request that does not write `crc` ends in such a completion, chosen by the request alone. -/
theorem oneResponse_exec {i : Instr} (hreq : i.isRequest = true) (hcrc : writesCrc i = false) :
    OneResponse addr (exec i) := by
  cases i <;> simp only [Instr.isRequest, writesCrc, Bool.false_eq_true, Bool.true_eq_false] at hreq hcrc
  case nop => exact oneResponse_acknowledge
  case frEncw w => exact oneResponse_answer (encWord w)
  case frDecw t0 t1 t2 => exact oneResponse_ite (oneResponse_answer [t0, t1]) (oneResponse_raise .checksumMismatch)
  case frEncSetIaqBaseline co2 tvoc =>
    exact oneResponse_ite (oneResponse_raise .invalidBaseline) (oneResponse_answerCommand .setIaqBaseline [tvoc, co2])
  case frEncIaqInit | frEncMeasureIaq | frEncGetIaqBaseline | frEncGetSerialId | frEncGetFeatureset =>
    exact oneResponse_answerCommand _ []
  case frDecIaqInit => exact oneResponse_answerReply .iaqInit []
  case frDecSetIaqBaseline => exact oneResponse_answerReply .setIaqBaseline []
  case frDecMeasureIaq r | frDecGetIaqBaseline r | frDecGetSerialId r | frDecGetFeatureset r =>
    exact oneResponse_answerReply _ r
  case frChkfs w => exact oneResponse_ite oneResponse_acknowledge (oneResponse_raise .deviceNotDetected)
  -- the reserved ops and selectors (30_encoding R56, R57)
  all_goals exact oneResponse_raise .illegalOp

end

/-- Settles O22: the response of each shared completion is fixed by the request and `DEV_ADDR`. -/
theorem framerIsStateless : Obligations.FramerIsStateless :=
  fun _ _ hreq hcrc => oneResponse_exec hreq hcrc

/-! ### The reset values (10_state R34) -/

@[simp] theorem resetOf_serialCount (b : Build) : (State.resetOf b).serialCount = 0#3 := rfl
@[simp] theorem resetOf_rst (b : Build) : (State.resetOf b).rst = false := rfl
@[simp] theorem resetOf_resp (b : Build) : (State.resetOf b).resp = none := rfl

/-- The port is ready exactly out of reset with no byte in progress (10_state R30, R33). -/
theorem reqReady_iff (s : State) : s.reqReady = true ↔ s.rst = false ∧ s.inProgress = false := by
  simp [State.reqReady]

theorem reqReady_of_rst {s : State} (h : s.rst = true) : s.reqReady = false := by simp [State.reqReady, h]

theorem respValid_of_resp_none {s : State} (h : s.resp = none) : s.respValid = false := by
  simp [State.respValid, h]

/-- With no byte in progress the output shows the register (10_state R32). -/
theorem crcOut_of_not_inProgress {s : State} (h : s.inProgress = false) : s.crcOut = s.crc := by
  simp [State.crcOut, h]

/-- Settles O42: the fields of `State.resetOf`, and the outputs they give. -/
theorem resetValues : Obligations.ResetValues := by
  refine ⟨fun b => ⟨resetOf_crc b, resetOf_serialCount b, ?_, ?_, ?_⟩, fun s h => reqReady_of_rst h⟩
  · exact (reqReady_iff _).mpr ⟨resetOf_rst b, resetOf_inProgress b⟩
  · exact respValid_of_resp_none (resetOf_resp b)
  · exact (crcOut_of_not_inProgress (resetOf_inProgress b)).trans (resetOf_crc b)

end Sys2Proof.Machine
end

section
/-! PROOFS. The family of 30_encoding: the operand forms and `sel` (R48 to R50), the reserved encodings (R56, R57) and the
pseudo-instructions (R60). -/

namespace Sys2Proof.Machine

/-! ### The decoder, op by op (30_encoding R49, R50) -/

section
variable (sel : BitVec 4) (d : Field72)

@[simp] theorem decodeRequest_nop : decodeRequest (mkRequest 0x0#4 sel d) = .nop := by simp [decodeRequest]

@[simp] theorem decodeRequest_crcInit : decodeRequest (mkRequest 0x1#4 sel d) = .crcInit := by simp [decodeRequest]

@[simp] theorem decodeRequest_crcByte : decodeRequest (mkRequest 0x2#4 sel d) = .crcByte (dataByte d) := by
  simp [decodeRequest]

@[simp] theorem decodeRequest_crcBit : decodeRequest (mkRequest 0x3#4 sel d) = .crcBit (dataBit d) := by
  simp [decodeRequest]

@[simp] theorem decodeRequest_frEncw : decodeRequest (mkRequest 0x4#4 sel d) = .frEncw (dataWord d) := by
  simp [decodeRequest]

@[simp] theorem decodeRequest_frDecw :
    decodeRequest (mkRequest 0x5#4 sel d) = .frDecw (byteAt d 0) (byteAt d 1) (byteAt d 2) := by
  simp [decodeRequest]

@[simp] theorem decodeRequest_frEnc : decodeRequest (mkRequest 0x6#4 sel d) = decodeEnc sel d := by
  simp [decodeRequest]

@[simp] theorem decodeRequest_frDec : decodeRequest (mkRequest 0x7#4 sel d) = decodeDec sel d := by
  simp [decodeRequest]

@[simp] theorem decodeRequest_frChkfs : decodeRequest (mkRequest 0x8#4 sel d) = .frChkfs (dataWord d) := by
  simp [decodeRequest]

/-- The selectors 0 to 5 of FR.ENC are the six commands (30_encoding R48). -/
theorem decodeEnc_selIndex (c : Selector) :
    decodeEnc (selIndex c) d = encInstr c (dataHighWord d) (dataWord d) := by
  cases c <;> rfl

/-- The selectors 0 to 5 of FR.DEC are the six commands, with the 3N bytes of their reply (30_encoding R48, R49). -/
theorem decodeDec_selIndex (c : Selector) :
    decodeDec (selIndex c) d = decInstr c (takeBytes (3 * (rom c).replyWords) d) := by
  cases c <;> rfl

/-- No arm of the decoder but those of FR.ENC and FR.DEC reads `sel` (30_encoding R48). -/
theorem decodeRequest_sel_irrelevant {op : BitVec 4} (henc : op ≠ 0x6#4) (hdec : op ≠ 0x7#4) :
    decodeRequest (mkRequest op sel d) = decodeRequest (mkRequest op 0#4 d) := by
  simp only [decodeRequest, opField_mkRequest, selField_mkRequest, dataField_mkRequest]
  split
  case h_7 hop => exact absurd (BitVec.eq_of_toNat_eq hop) henc
  case h_8 hop => exact absurd (BitVec.eq_of_toNat_eq hop) hdec
  all_goals rfl

end

/-- Settles O3: each row is the decoder's equation for its op, or for its op and selector. -/
theorem operandFormsOfEveryOp : Obligations.OperandFormsOfEveryOp := by
  intro sel d
  have enc c := (decodeRequest_frEnc (selIndex c) d).trans (decodeEnc_selIndex d c)
  have dec c := (decodeRequest_frDec (selIndex c) d).trans (decodeDec_selIndex d c)
  exact ⟨decodeRequest_nop sel d, decodeRequest_crcInit sel d, decodeRequest_crcByte sel d,
    decodeRequest_crcBit sel d, decodeRequest_frEncw sel d, decodeRequest_frDecw sel d,
    enc .iaqInit, enc .measureIaq, enc .getIaqBaseline, enc .setIaqBaseline, enc .getSerialId, enc .getFeatureset,
    dec .iaqInit, dec .measureIaq, dec .getIaqBaseline, dec .setIaqBaseline, dec .getSerialId, dec .getFeatureset,
    decodeRequest_frChkfs sel d⟩

/-! ### The reserved encodings (30_encoding R56, R57) -/

/-- The 27 reserved instructions: the ops 9 to 15, and the selectors 6 to 15 of FR.ENC and FR.DEC. -/
def reservedInstrs : List Instr :=
  [.reservedOp9, .reservedOpA, .reservedOpB, .reservedOpC, .reservedOpD, .reservedOpE, .reservedOpF,
    .reservedEncSel6, .reservedEncSel7, .reservedEncSel8, .reservedEncSel9, .reservedEncSel10,
    .reservedEncSel11, .reservedEncSel12, .reservedEncSel13, .reservedEncSel14, .reservedEncSel15,
    .reservedDecSel6, .reservedDecSel7, .reservedDecSel8, .reservedDecSel9, .reservedDecSel10,
    .reservedDecSel11, .reservedDecSel12, .reservedDecSel13, .reservedDecSel14, .reservedDecSel15]

/-- Every reserved instruction raises ILLEGAL_OP and does nothing else. -/
theorem exec_reserved {i : Instr} (h : i ∈ reservedInstrs) (s : State) : exec i s = raise .illegalOp s := by
  unfold reservedInstrs at h
  fin_cases h <;> rfl

theorem decodeEnc_mem_reserved {sel : BitVec 4} (h : 6 ≤ sel.toNat) (d : Field72) :
    decodeEnc sel d ∈ reservedInstrs := by
  unfold decodeEnc
  split
  case h_1 | h_2 | h_3 | h_4 | h_5 | h_6 => omega
  all_goals decide

theorem decodeDec_mem_reserved {sel : BitVec 4} (h : 6 ≤ sel.toNat) (d : Field72) :
    decodeDec sel d ∈ reservedInstrs := by
  unfold decodeDec
  split
  case h_1 | h_2 | h_3 | h_4 | h_5 | h_6 => omega
  all_goals decide

theorem decodeRequest_mem_reserved_of_op {op : BitVec 4} (h : 9 ≤ op.toNat) (sel : BitVec 4) (d : Field72) :
    decodeRequest (mkRequest op sel d) ∈ reservedInstrs := by
  simp only [decodeRequest, opField_mkRequest]
  split
  case h_1 | h_2 | h_3 | h_4 | h_5 | h_6 | h_7 | h_8 | h_9 => omega
  all_goals decide

theorem decodeRequest_mem_reserved_of_sel {op sel : BitVec 4} (hop : op = 0x6#4 ∨ op = 0x7#4)
    (h : 6 ≤ sel.toNat) (d : Field72) : decodeRequest (mkRequest op sel d) ∈ reservedInstrs := by
  rcases hop with rfl | rfl
  · rw [decodeRequest_frEnc]
    exact decodeEnc_mem_reserved h d
  · rw [decodeRequest_frDec]
    exact decodeDec_mem_reserved h d

/-- Settles O36: a reserved encoding decodes to one of the reserved instructions, and each of these raises ILLEGAL_OP. -/
theorem reservedEncodingsGiveIllegalOp : Obligations.ReservedEncodingsGiveIllegalOp := by
  refine ⟨fun i s h => exec_reserved h s, fun op sel d s h => ?_⟩
  rcases h with hop | ⟨hop, hsel⟩
  · exact exec_reserved (decodeRequest_mem_reserved_of_op hop sel d) s
  · exact exec_reserved (decodeRequest_mem_reserved_of_sel hop hsel d) s

/-- Settles O4: an op that is neither FR.ENC nor FR.DEC decodes alike under every `sel`; under these two, a selector is
a command's or reserved. -/
theorem selIsIgnoredByEveryOtherOp : Obligations.SelIsIgnoredByEveryOtherOp := by
  refine ⟨fun op sel d s henc hdec => ?_, fun c d => ⟨?_, ?_⟩, fun op sel d s hop hsel => ?_⟩
  · rw [runFetched_request, runFetched_request, decodeRequest_sel_irrelevant sel d henc hdec]
  · exact (decodeRequest_frEnc (selIndex c) d).trans (decodeEnc_selIndex d c)
  · exact (decodeRequest_frDec (selIndex c) d).trans (decodeDec_selIndex d c)
  · exact exec_reserved (decodeRequest_mem_reserved_of_sel hop hsel d) s

/-! ### Eight bits make a byte (40_crc R66)

After `k` loop turns on `c ^^^ b` the register differs from the one that was fed `k` bits serially by exactly the bits of
`b` not fed yet, moved up by `k` places. After eight none is left. -/

theorem shiftSteps_succ' (n : Nat) (x : Byte) : shiftSteps (n + 1) x = shiftStep (shiftSteps n x) := by
  induction n generalizing x with
  | zero => rfl
  | succ n ih => exact ih (shiftStep x)

/-- With its top bit clear the register is only shifted (40_crc R62). -/
theorem shiftStep_of_top_clear {x : Byte} (h : x.getLsbD 7 = false) : shiftStep x = x <<< 1 :=
  if_neg (ne_true_of_eq_false h)

/-- The `k`-th bit of the stream in the top place, where a bit step XORs it into the register (40_crc R64). -/
def streamBitAtTop (b : Byte) (k : Nat) : Byte := (bitMsbFirst b k).setWidth 8 <<< 7

theorem feedBits_succ_eq_shiftStep (c b : Byte) (k : Nat) :
    feedBits c b (k + 1) = shiftStep (feedBits c b k ^^^ streamBitAtTop b k) :=
  crc8Bit_eq_shiftStep _ _

theorem getLsbD_streamBitAtTop (b : Byte) (k i : Nat) :
    (streamBitAtTop b k).getLsbD i = (decide (i = 7) && b.getLsbD (7 - k)) := by
  by_cases hi : i = 7
  · subst hi
    simp [streamBitAtTop, bitMsbFirst]
  · simp only [streamBitAtTop, bitMsbFirst, BitVec.getLsbD_shiftLeft, BitVec.getLsbD_setWidth,
      BitVec.getLsbD_extractLsb', hi]
    grind

/-- Taking the next stream bit out of the bits not fed yet clears their top bit, so one turn moves the others up. -/
theorem shiftStep_unfed {k : Nat} (hk : k < 8) (b : Byte) :
    shiftStep (streamBitAtTop b k ^^^ b <<< k) = b <<< (k + 1) := by
  have top : (streamBitAtTop b k ^^^ b <<< k).getLsbD 7 = false := by
    rw [BitVec.getLsbD_xor, getLsbD_streamBitAtTop, BitVec.getLsbD_shiftLeft]
    simp [show ¬7 < k by omega]
  rw [shiftStep_of_top_clear top]
  apply BitVec.eq_of_getLsbD_eq
  intro i hi
  simp [getLsbD_streamBitAtTop]
  grind

theorem shiftSteps_xor_eq_feedBits (c b : Byte) {k : Nat} (hk : k ≤ 8) :
    shiftSteps k (c ^^^ b) = feedBits c b k ^^^ b <<< k := by
  induction k with
  | zero => simp [shiftSteps]
  | succ k ih =>
    have cancel : feedBits c b k ^^^ b <<< k
        = (feedBits c b k ^^^ streamBitAtTop b k) ^^^ (streamBitAtTop b k ^^^ b <<< k) := by
      rw [BitVec.xor_assoc, ← BitVec.xor_assoc (streamBitAtTop b k), BitVec.xor_self, BitVec.zero_xor]
    calc shiftSteps (k + 1) (c ^^^ b)
        = shiftStep (feedBits c b k ^^^ b <<< k) := by rw [shiftSteps_succ', ih (by omega)]
      _ = shiftStep (feedBits c b k ^^^ streamBitAtTop b k) ^^^ shiftStep (streamBitAtTop b k ^^^ b <<< k) := by
          rw [cancel, shiftStep_xor]
      _ = feedBits c b (k + 1) ^^^ b <<< (k + 1) := by
          rw [shiftStep_unfed (by omega), feedBits_succ_eq_shiftStep]

/-- The eight bits of a byte, most significant first, change the register as the byte does (40_crc R66). -/
theorem feedBits_eight (c b : Byte) : feedBits c b 8 = crc8Step c b := by
  have unfedNone : b <<< 8 = 0#8 := BitVec.shiftLeft_eq_zero (Nat.le_refl 8)
  rw [crc8Step, shiftSteps_xor_eq_feedBits c b (Nat.le_refl 8), unfedNone, BitVec.xor_zero]

theorem feedBits_eq_foldl (c b : Byte) (k : Nat) :
    feedBits c b k = (List.range k).foldl (fun r j => crc8Bit r (bitMsbFirst b j)) c := by
  induction k with
  | zero => rfl
  | succ k ih => simp [List.range_succ, feedBits_succ, ih]

/-! ### Runs of requests that write the register (30_encoding R60) -/

/-- The state a CRC request leaves that wrote `v`: the new register, and the response that reports it. -/
def afterCrcWrite (v : Byte) (s : State) : State := { s with crc := v, resp := some (bareResponse .ok v) }

@[simp] theorem afterCrcWrite_crc (v : Byte) (s : State) : (afterCrcWrite v s).crc = v := rfl

/-- A later write leaves nothing of an earlier one. -/
@[simp] theorem afterCrcWrite_afterCrcWrite (v u : Byte) (s : State) :
    afterCrcWrite v (afterCrcWrite u s) = afterCrcWrite v s := rfl

theorem exec_crcInit (s : State) : exec .crcInit s = .next (afterCrcWrite crcInit s) := rfl

theorem exec_crcByte (b : Byte) (s : State) :
    exec (.crcByte b) s = .next (afterCrcWrite (crc8Step s.crc b) s) := rfl

theorem exec_crcBit (e : BitVec 1) (s : State) :
    exec (.crcBit e) s = .next (afterCrcWrite (crc8Bit s.crc e) s) := rfl

@[simp] theorem runInstrs_nil (s : State) : runInstrs [] s = .next s := rfl

theorem runInstrs_cons_of_next {i : Instr} {s t : State} (h : exec i s = .next t) (is : List Instr) :
    runInstrs (i :: is) s = runInstrs is t := by
  simp [runInstrs, h]

section
variable {α : Type} {mk : α → Instr} {f : Byte → α → Byte}

/-- Requests that each fold one operand into the register fold the whole list, from a register already written. -/
theorem runInstrs_map_afterCrcWrite (hmk : ∀ a s, exec (mk a) s = .next (afterCrcWrite (f s.crc a) s))
    (as : List α) (c : Byte) (s : State) :
    runInstrs (as.map mk) (afterCrcWrite c s) = .next (afterCrcWrite (as.foldl f c) s) := by
  induction as generalizing c with
  | nil => rfl
  | cons a as ih => simpa [runInstrs_cons_of_next (hmk a _)] using ih (f c a)

/-- The same from any state, when there is at least one such request. -/
theorem runInstrs_map_cons (hmk : ∀ a s, exec (mk a) s = .next (afterCrcWrite (f s.crc a) s))
    (a : α) (as : List α) (s : State) :
    runInstrs ((a :: as).map mk) s = .next (afterCrcWrite ((a :: as).foldl f s.crc) s) := by
  rw [List.map_cons, runInstrs_cons_of_next (hmk a s), runInstrs_map_afterCrcWrite hmk, List.foldl_cons]

end

theorem expandLine_crcWord (w : Word16) :
    expandLine (.crcWord w.toNat) = [.crcByte (hi w), .crcByte (lo w)] := by
  simp [expandLine]

theorem expandLine_crcByte (b : Byte) : expandLine (.crcByte b.toNat) = [.crcByte b] := by
  simp [expandLine]

theorem expandLine_crcBits8 (b : Byte) : expandLine (.crcBits8 b.toNat) = bitInstrs b := by
  simp [expandLine]

theorem runInstrs_crcCalc (bs : List Nat) (s : State) :
    runInstrs (expandLine (.crcCalc bs)) s = .next (afterCrcWrite (crc8 (bs.map (BitVec.ofNat 8))) s) := by
  rw [expandLine, runInstrs_cons_of_next (exec_crcInit s),
    runInstrs_map_afterCrcWrite (f := fun c b => crc8Step c (BitVec.ofNat 8 b)) (fun b => exec_crcByte _), crc8, crc8From, List.foldl_map]

theorem runInstrs_crcWord (w : Word16) (s : State) :
    runInstrs (expandLine (.crcWord w.toNat)) s
      = .next (afterCrcWrite (crc8Step (crc8Step s.crc (hi w)) (lo w)) s) := by
  rw [expandLine_crcWord]
  exact runInstrs_map_cons exec_crcByte (hi w) [lo w] s

/-- The eight CRC.BITs of a byte end in the state its one CRC.BYTE ends in (30_encoding R60). -/
theorem runInstrs_bitInstrs (b : Byte) (s : State) : runInstrs (bitInstrs b) s = runInstrs [.crcByte b] s := by
  calc runInstrs (bitInstrs b) s
      = .next (afterCrcWrite (feedBits s.crc b 8) s) := by
        rw [feedBits_eq_foldl]
        exact runInstrs_map_cons (fun k t => exec_crcBit (bitMsbFirst b k) t) 0 [1, 2, 3, 4, 5, 6, 7] s
    _ = .next (afterCrcWrite (crc8Step s.crc b) s) := by rw [feedBits_eight]
    _ = runInstrs [.crcByte b] s := (runInstrs_cons_of_next (exec_crcByte b s) []).symm

/-- Settles O21: the expansions are the table's; CRC.BYTEs and CRC.BITs fold their operands into the register, and eight
bits fold as their byte does. -/
theorem pseudoInstructionsCompute : Obligations.PseudoInstructionsCompute := by
  refine ⟨fun bs => rfl, expandLine_crcWord, expandLine_crcBits8, fun bs s => ?_, fun w s => ?_, fun b s => ?_⟩
  · exact ⟨_, runInstrs_crcCalc bs s, rfl⟩
  · exact ⟨_, runInstrs_crcWord w s, rfl⟩
  · rw [expandLine_crcBits8, expandLine_crcByte]
    exact runInstrs_bitInstrs b s

end Sys2Proof.Machine
end

section
/-! PROOFS. The family of 40_crc: the CRC functions (R63, R65, R66, R72, R75), NOP and CRC.INIT (R68, R71), and the
streaming law (R74). -/

namespace Sys2Proof.Machine

/-! ### The CRC of a sequence (40_crc R63, R75) -/

theorem crc8_nil : crc8 [] = crcInit := rfl

theorem crc8_pair (a b : Byte) : crc8 [a, b] = crc8Step (crc8Step crcInit a) b := rfl

theorem crc8_append_singleton (s : List Byte) (b : Byte) : crc8 (s ++ [b]) = crc8Step (crc8 s) b :=
  crc8From_append crcInit s [b]

/-- Settles O10: the empty loop returns the initial value, and the last turn of a longer one is one byte step. -/
theorem sequenceCrcFoldsBytes : Obligations.SequenceCrcFoldsBytes :=
  ⟨crc8_nil, crc8_append_singleton⟩

/-- Settles O14: the two byte steps, chained by the loop of R63. -/
theorem referenceVectorHolds : Obligations.ReferenceVectorHolds := by
  have first : crc8Step 0xFF#8 0xBE#8 = 0x0C#8 := rfl
  have second : crc8Step 0x0C#8 0xEF#8 = 0x92#8 := rfl
  exact ⟨by rw [crc8_pair, crcInit, first, second], first, second⟩

/-! ### The bits of a byte step (40_crc R65, R66) -/

/-- The bits of a loop turn: all move up by one place, and the one shifted out is XORed in wherever 0x31 has a 1
(40_crc R62). -/
theorem getElem_shiftStep (x : Byte) (i : Nat) (hi : i < 8) :
    (shiftStep x)[i] = ((decide (0 < i) && x[i - 1]) ^^ (x[7] && crcPoly[i])) := by
  unfold shiftStep
  rw [← BitVec.getLsbD_eq_getElem (i := 7)]
  cases x.getLsbD 7 <;> simp [Nat.pos_iff_ne_zero]

/-- The byte step reads `c` and `b` through `x = c ^ b` alone: `crc8_step(c, b) = T[x]` (40_crc R65). -/
theorem crc8Step_eq_table (c b : Byte) : crc8Step c b = crc8Step 0x00#8 (c ^^^ b) := by
  rw [crc8Step, crc8Step, BitVec.zero_xor]

/-- Settles O11: eight turns, bit by bit, are XORs of bits of `x`, in which a bit that occurs twice cancels. -/
theorem byteStepMeetsParallelEquations : Obligations.ByteStepMeetsParallelEquations := by
  intro c b x n
  have hn : n = shiftSteps 8 x := rfl
  refine ⟨?_, ?_, ?_, ?_, ?_, ?_, ?_, ?_, crc8Step_eq_table c b⟩
  all_goals
    -- the bit as an XOR of bits of `x`, eight turns back
    simp [hn, shiftSteps, getElem_shiftStep, crcPoly]
    -- order the terms and drop those that occur twice
    grind

/-- Settles O12: the eight bit steps are `feedBits` written out. -/
theorem eightBitStepsEqualOneByteStep : Obligations.EightBitStepsEqualOneByteStep :=
  fun c b => (feedBits_eight c b).symm

/-! ### The residue law (40_crc R72)

No loop turn loses information: 0x31 is odd, so the lowest bit of the result tells whether the top bit was set. Hence the
table is a bijection. -/

theorem shiftStep_injective : Function.Injective shiftStep := by
  intro x y h
  have bit (i : Nat) (hi : i < 8) : (shiftStep x)[i] = (shiftStep y)[i] := by rw [h]
  have top : x[7] = y[7] := by simpa [getElem_shiftStep, crcPoly] using bit 0 (by omega)
  ext i hi
  by_cases h7 : i = 7
  · subst h7
    exact top
  · have next := bit (i + 1) (by omega)
    rw [getElem_shiftStep, getElem_shiftStep, top] at next
    simpa using next

theorem shiftSteps_injective (n : Nat) : Function.Injective (shiftSteps n) := by
  induction n with
  | zero => exact Function.injective_id
  | succ n ih => exact ih.comp shiftStep_injective

theorem shiftSteps_zero_byte (n : Nat) : shiftSteps n 0x00#8 = 0x00#8 := by
  induction n with
  | zero => rfl
  | succ n ih => exact ih

theorem crc8Step_eq_zero_iff (c b : Byte) : crc8Step c b = 0x00#8 ↔ b = c := by
  rw [crc8Step, (shiftSteps_injective 8).eq_iff' (shiftSteps_zero_byte 8), BitVec.xor_eq_zero_iff, eq_comm]

theorem table_bijective : Function.Bijective (crc8Step 0x00#8) := by
  have table : crc8Step 0x00#8 = shiftSteps 8 := funext fun x => by rw [crc8Step, BitVec.zero_xor]
  rw [table]
  exact Finite.injective_iff_bijective.mp (shiftSteps_injective 8)

theorem decWord_ok_iff (t0 t1 t2 : Byte) : (decWord t0 t1 t2).1 = true ↔ crc8 [t0, t1] = t2 := by
  rcases decWord_cases t0 t1 t2 with ⟨h, e⟩ | ⟨h, e⟩ <;> simp [h, e]

/-- A triple passes exactly when its own CRC is 0 (41_framer R78). -/
theorem decWord_ok_iff_residue (t0 t1 t2 : Byte) : (decWord t0 t1 t2).1 = true ↔ crc8 [t0, t1, t2] = 0x00#8 := by
  calc (decWord t0 t1 t2).1 = true
    _ ↔ crc8 [t0, t1] = t2 := decWord_ok_iff t0 t1 t2
    _ ↔ t2 = crc8 [t0, t1] := eq_comm
    _ ↔ crc8Step (crc8 [t0, t1]) t2 = 0x00#8 := (crc8Step_eq_zero_iff _ _).symm
    _ ↔ crc8 [t0, t1, t2] = 0x00#8 := by rw [← crc8_append_singleton, List.cons_append, List.singleton_append]

/-- Settles O13: a byte step gives 0 only on the register's own value, since the table is injective and linear. -/
theorem appendedChecksumLeavesZero : Obligations.AppendedChecksumLeavesZero := by
  refine ⟨fun s => ?_, crc8Step_eq_zero_iff, ⟨table_bijective, ?_, crc8Step_eq_table⟩, decWord_ok_iff_residue⟩
  · rw [crc8_append_singleton, crc8Step_eq_zero_iff]
  · rw [crc8Step_eq_zero_iff]

/-! ### NOP and CRC.INIT (40_crc R68, R71) -/

/-- Settles O16: NOP acknowledges. -/
theorem nopReportsTheRegister : Obligations.NopReportsTheRegister :=
  ⟨decodeRequest_nop, acknowledge_eq⟩

/-- Settles O17: CRC.INIT writes a constant, and a later write leaves nothing of an earlier one. -/
theorem crcInitLoadsInitialValue : Obligations.CrcInitLoadsInitialValue := by
  refine ⟨decodeRequest_crcInit, exec_crcInit, fun s t h => ?_⟩
  obtain rfl : afterCrcWrite crcInit s = t := by simpa [exec_crcInit] using h
  rw [exec_crcInit, afterCrcWrite_afterCrcWrite]

/-! ### The streaming law (40_crc R74)

A run of requests acts on the register as a fold of the decoded instructions' effects, whatever the requests are. That
the fold gives the sequence's CRC is then a fact about `Carries` alone. -/

/-- The register after an instruction, from the register before it (10_state R21). -/
def crcAfter (c : Byte) : Instr → Byte
  | .crcInit => crcInit
  | .crcByte b => crc8Step c b
  | .crcBit d => crc8Bit c d
  | _ => c

theorem crcAfter_of_not_writesCrc {i : Instr} (h : writesCrc i = false) (c : Byte) : crcAfter c i = c := by
  unfold crcAfter
  split
  case h_1 | h_2 | h_3 => cases h
  case h_4 => rfl

/-- An instruction that does not write `crc` leaves the register, the input list and the serial state alone. -/
theorem exec_of_not_writesCrc {i : Instr} (h : writesCrc i = false) (s : State) :
    ∃ t, exec i s = .next t ∧ t.crc = s.crc ∧ t.inbox = s.inbox ∧ t.inProgress = s.inProgress := by
  cases hreq : i.isRequest with
  | true =>
    obtain ⟨r, hr⟩ := oneResponse_exec (addr := s.build.devAddr) hreq h
    exact ⟨_, hr s rfl, rfl, rfl, rfl⟩
  | false =>
    obtain ⟨c, hc⟩ := exec_command hreq s
    exact ⟨_, hc.trans (openTransaction_eq c s), rfl, rfl, rfl⟩

/-- Every instruction goes on, with its effect on the register, and leaves the input list and the serial state alone. -/
theorem exec_crcAfter (i : Instr) (s : State) :
    ∃ t, exec i s = .next t ∧ t.crc = crcAfter s.crc i ∧ t.inbox = s.inbox ∧ t.inProgress = s.inProgress := by
  cases hw : writesCrc i with
  | false => rw [crcAfter_of_not_writesCrc hw]; exact exec_of_not_writesCrc hw s
  | true =>
    cases i <;> simp only [writesCrc, Bool.false_eq_true] at hw
    case crcInit => exact ⟨_, exec_crcInit s, rfl, rfl, rfl⟩
    case crcByte b => exact ⟨_, exec_crcByte b s, rfl, rfl, rfl⟩
    case crcBit d => exact ⟨_, exec_crcBit d s, rfl, rfl, rfl⟩

theorem step_request {s : State} {w : Request} {rest : List Event} (h : s.inbox = .request w :: rest)
    (hp : s.inProgress = false) : step s = exec (decodeRequest w) (accept rest s) := by
  simp [step, serveEvent, h, hp]

theorem run_succ_of_next {s t : State} (h : step s = .next t) (k : Nat) :
    Host.Core.run core (k + 1) s = Host.Core.run core k t := by
  have hcore : core.step s = .next t := h
  simp only [Host.Core.run, hcore]

/-- A run of requests folds their effects into the register and leaves the later events untouched. -/
theorem run_requests (ws : List Request) {s : State} {later : List Event} (hp : s.inProgress = false)
    (hin : s.inbox = ws.map Event.request ++ later) :
    ∃ t : State, Host.Core.run core ws.length s = .next t ∧
      t.crc = (ws.map decodeRequest).foldl crcAfter s.crc ∧ t.inbox = later := by
  induction ws generalizing s with
  | nil => exact ⟨s, rfl, rfl, hin⟩
  | cons w ws ih =>
    obtain ⟨u, hexec, hcrc, hinbox, hprog⟩ :=
      exec_crcAfter (decodeRequest w) (accept (ws.map Event.request ++ later) s)
    obtain ⟨t, hrun, htcrc, htin⟩ := ih (hprog.trans hp) hinbox
    refine ⟨t, ?_, ?_, htin⟩
    · exact (run_succ_of_next ((step_request hin hp).trans hexec) ws.length).trans hrun
    · rw [htcrc, hcrc]; rfl

/-- Requests that do not write `crc` can be left out of the fold. -/
theorem foldl_crcAfter_filter (is : List Instr) (c : Byte) :
    (is.filter writesCrc).foldl crcAfter c = is.foldl crcAfter c := by
  induction is generalizing c with
  | nil => rfl
  | cons i is ih =>
    cases h : writesCrc i with
    | true => simp [h, ih]
    | false => simp [h, ih, crcAfter_of_not_writesCrc h]

/-- The eight CRC.BITs of a byte have the effect of its CRC.BYTE (40_crc R66). -/
theorem foldl_crcAfter_bitInstrs (b c : Byte) : (bitInstrs b).foldl crcAfter c = crc8Step c b := by
  rw [bitInstrs, List.foldl_map, ← feedBits_eight, feedBits_eq_foldl]
  rfl

/-- A stream that carries a byte sequence folds to the sequence's CRC, from any register value. -/
theorem Carries.foldl_crcAfter {ws : List Request} {bs : List Byte} (h : Carries ws bs) (c : Byte) :
    (ws.map decodeRequest).foldl crcAfter c = crc8From c bs := by
  induction h generalizing c with
  | done => rfl
  | byte h _ ih =>
    rw [List.map_cons, List.foldl_cons, h, ih]
    rfl
  | bits h _ ih =>
    rw [List.map_append, List.foldl_append, ih, ← foldl_crcAfter_filter, h, foldl_crcAfter_bitInstrs, crc8From_cons]
  | quiet h _ ih => rw [List.map_cons, List.foldl_cons, crcAfter_of_not_writesCrc h, ih]

/-- Settles O20: the stream folds to the sequence's CRC from 0xFF, which is also what a leading CRC.INIT leaves. -/
theorem streamEndsWithSequenceCrc : Obligations.StreamEndsWithSequenceCrc := by
  constructor
  · intro s ws bs later hc hp hcrc hin
    obtain ⟨t, hrun, ht, hlater⟩ := run_requests ws hp hin
    refine ⟨t, hrun, ?_, hlater⟩
    rw [ht, hc.foldl_crcAfter, hcrc]
    rfl
  · intro s w ws bs later hw hc hp hin
    obtain ⟨t, hrun, ht, hlater⟩ := run_requests (w :: ws) hp hin
    refine ⟨t, hrun, ?_, hlater⟩
    rw [ht, List.map_cons, List.foldl_cons, hw, hc.foldl_crcAfter]
    rfl

end Sys2Proof.Machine
end

section
/-! PROOFS. The family of 41_framer: triples and their single-bit errors (R77 to R80, R87, R88), the baseline frame and the
zero pair (R82, R83), empty replies (R85), the identity check (R86) and the serial number (R92). -/

namespace Sys2Proof.Machine

/-! ### Left-aligned byte sequences (20_memory R41)

Packing puts one value after the other on top of what is packed already. Values put on top one by one can be put on top
as one, so a packed sequence is the append of its values with zeros below. -/

/-- A field with `x` put on top: the rest moves down, and what has no place left falls off. -/
def pushTop {n : Nat} (x : BitVec n) (F : Field72) : Field72 := (x ++ F).extractLsb' n 72

theorem getLsbD_pushTop {n : Nat} (x : BitVec n) (F : Field72) (i : Nat) :
    (pushTop x F).getLsbD i =
      (decide (i < 72) && if n + i < 72 then F.getLsbD (n + i) else x.getLsbD (n + i - 72)) := by
  rw [pushTop, BitVec.getLsbD_extractLsb', BitVec.getLsbD_append]

theorem pushTop_pushTop {m n : Nat} (x : BitVec m) (y : BitVec n) (F : Field72) :
    pushTop x (pushTop y F) = pushTop (x ++ y) F := by
  apply BitVec.eq_of_getLsbD_eq
  intro i hi
  simp only [getLsbD_pushTop, BitVec.getLsbD_append]
  grind

theorem pushTop_zero {m n : Nat} (x : BitVec m) (h : m + n = 72) : pushTop x 0#72 = (x ++ 0#n).cast h := by
  apply BitVec.eq_of_getLsbD_eq
  intro i hi
  simp only [getLsbD_pushTop, BitVec.getLsbD_cast, BitVec.getLsbD_append, BitVec.getLsbD_zero]
  grind

theorem packLeft_nil : packLeft [] = 0#72 := rfl

theorem packLeft_cons (b : Byte) (bs : List Byte) : packLeft (b :: bs) = pushTop b (packLeft bs) := by
  apply BitVec.eq_of_getLsbD_eq
  intro i hi
  simp only [packLeft, BitVec.getLsbD_or, BitVec.getLsbD_shiftLeft, BitVec.getLsbD_setWidth,
    BitVec.getLsbD_ushiftRight, getLsbD_pushTop]
  grind

theorem byteAt_pushTop_zero (b : Byte) (F : Field72) : byteAt (pushTop b F) 0 = b := by
  ext j hj
  simp only [byteAt, BitVec.getElem_extractLsb', getLsbD_pushTop]
  grind

theorem byteAt_pushTop_succ (b : Byte) (F : Field72) {i : Nat} (hi : i < 8) :
    byteAt (pushTop b F) (i + 1) = byteAt F i := by
  ext j hj
  simp only [byteAt, BitVec.getElem_extractLsb', getLsbD_pushTop]
  grind

/-- Byte `i` of the field is byte `i` of the sequence, and 0 after its end. -/
theorem byteAt_packLeft (bs : List Byte) {i : Nat} (hi : i < 9) : byteAt (packLeft bs) i = bs.getD i 0#8 := by
  induction bs generalizing i with
  | nil => simp [packLeft_nil, byteAt]
  | cons b bs ih =>
    rw [packLeft_cons]
    cases i with
    | zero => exact byteAt_pushTop_zero b _
    | succ i => rw [byteAt_pushTop_succ b _ (by omega), ih (by omega), List.getD_cons_succ]

@[simp] theorem hi_append_lo (w : Word16) : hi w ++ lo w = w := BitVec.extractLsb'_append_extractLsb'

theorem packLeft_wordBytes_append (w : Word16) (bs : List Byte) :
    packLeft (wordBytes w ++ bs) = pushTop w (packLeft bs) := by
  calc packLeft (hi w :: lo w :: bs)
      = pushTop (hi w ++ lo w) (packLeft bs) := by rw [packLeft_cons, packLeft_cons, pushTop_pushTop]
    _ = pushTop w (packLeft bs) := by rw [hi_append_lo]

theorem packLeft_encWord_append (w : Word16) (bs : List Byte) :
    packLeft (encWord w ++ bs) = pushTop w (pushTop (crc8 (wordBytes w)) (packLeft bs)) :=
  (packLeft_wordBytes_append w (crc8 (wordBytes w) :: bs)).trans (by rw [packLeft_cons])

theorem packLeft_wordBytes (w : Word16) : packLeft (wordBytes w) = w ++ 0#56 :=
  (packLeft_wordBytes_append w []).trans (pushTop_zero w rfl)

theorem packLeft_encWord (w : Word16) : packLeft (encWord w) = w ++ crc8 (wordBytes w) ++ 0#48 := by
  calc packLeft (encWord w ++ [])
      = pushTop (w ++ crc8 (wordBytes w)) 0#72 := by rw [packLeft_encWord_append, pushTop_pushTop, packLeft_nil]
    _ = w ++ crc8 (wordBytes w) ++ 0#48 := pushTop_zero _ rfl

theorem packLeft_three_words (w0 w1 w2 : Word16) :
    packLeft ([w0, w1, w2].flatMap wordBytes) = w0 ++ w1 ++ w2 ++ 0#24 := by
  calc packLeft (wordBytes w0 ++ (wordBytes w1 ++ (wordBytes w2 ++ [])))
      = pushTop (w0 ++ w1 ++ w2) 0#72 := by
        simp only [packLeft_wordBytes_append, packLeft_nil]
        rw [pushTop_pushTop, pushTop_pushTop]
    _ = w0 ++ w1 ++ w2 ++ 0#24 := pushTop_zero _ rfl

/-- The layout of a command frame with two payload words (30_encoding R54). -/
theorem packLeft_commandFrame_pair (k a b : Word16) :
    packLeft (commandFrame k [a, b])
      = k ++ a ++ crc8 (wordBytes a) ++ b ++ crc8 (wordBytes b) ++ 0#8 := by
  calc packLeft (wordBytes k ++ (encWord a ++ (encWord b ++ [])))
      = pushTop (k ++ a ++ crc8 (wordBytes a) ++ b ++ crc8 (wordBytes b)) 0#72 := by
        simp only [packLeft_wordBytes_append, packLeft_encWord_append, packLeft_nil]
        rw [pushTop_pushTop, pushTop_pushTop, pushTop_pushTop, pushTop_pushTop]
    _ = k ++ a ++ crc8 (wordBytes a) ++ b ++ crc8 (wordBytes b) ++ 0#8 := pushTop_zero _ rfl

/-! ### Single-bit errors (41_framer R88)

The CRC is linear, so whether a damaged triple passes depends on the error alone. An error within one byte never passes:
only the register value 0 survives the bytes of zeros around it. -/

theorem crc8Step_xor (c d a b : Byte) : crc8Step (c ^^^ d) (a ^^^ b) = crc8Step c a ^^^ crc8Step d b := by
  have regroup : (c ^^^ d) ^^^ (a ^^^ b) = (c ^^^ a) ^^^ (d ^^^ b) := by ac_rfl
  rw [crc8Step, regroup, shiftSteps_xor, crc8Step, crc8Step]

theorem crc8From_zipWith_xor {s u : List Byte} (h : s.length = u.length) (c d : Byte) :
    crc8From (c ^^^ d) (List.zipWith (· ^^^ ·) s u) = crc8From c s ^^^ crc8From d u := by
  induction s generalizing u c d with
  | nil =>
    obtain rfl := List.length_eq_zero_iff.mp h.symm
    rfl
  | cons a s ih =>
    cases u with
    | nil => cases h
    | cons b u =>
      rw [List.zipWith_cons_cons, crc8From_cons, crc8From_cons, crc8From_cons, crc8Step_xor]
      exact ih (Nat.succ.inj h) _ _

theorem crc8From_replicate_zero_eq_zero_iff (c : Byte) (n : Nat) :
    crc8From c (List.replicate n 0#8) = 0#8 ↔ c = 0#8 := by
  induction n generalizing c with
  | zero => exact Iff.rfl
  | succ n ih => rw [List.replicate_succ, crc8From_cons, ih, crc8Step_eq_zero_iff, eq_comm]

/-- An error within one byte, at any place of a sequence of any length, leaves 0 only when it is no error. -/
theorem crc8From_error_in_one_byte_eq_zero_iff (m n : Nat) (e : Byte) :
    crc8From 0#8 (List.replicate m 0#8 ++ e :: List.replicate n 0#8) = 0#8 ↔ e = 0#8 := by
  have before : crc8From 0#8 (List.replicate m 0#8) = 0#8 := (crc8From_replicate_zero_eq_zero_iff _ m).mpr rfl
  rw [crc8From_append, before, crc8From_cons, crc8From_replicate_zero_eq_zero_iff, crc8Step_eq_zero_iff]

/-- The bytes of a triple as it stands on the wire, most significant first (41_framer R77). -/
def tripleBytes (v : BitVec 24) : List Byte := [v.extractLsb' 16 8, v.extractLsb' 8 8, v.extractLsb' 0 8]

theorem tripleBytes_xor (v e : BitVec 24) :
    tripleBytes (v ^^^ e) = List.zipWith (· ^^^ ·) (tripleBytes v) (tripleBytes e) := by
  simp only [tripleBytes, BitVec.extractLsb'_xor, List.zipWith_cons_cons, List.zipWith_nil_left]

theorem tripleBytes_encoded (w : Word16) : tripleBytes (w ++ crc8 (wordBytes w)) = encWord w := by
  have high : (w ++ crc8 (wordBytes w)).extractLsb' 16 8 = hi w := BitVec.extractLsb'_append_eq_of_le (by omega)
  have low : (w ++ crc8 (wordBytes w)).extractLsb' 8 8 = lo w := BitVec.extractLsb'_append_eq_of_le (by omega)
  have sum : (w ++ crc8 (wordBytes w)).extractLsb' 0 8 = crc8 (wordBytes w) := BitVec.extractLsb'_append_eq_right
  rw [tripleBytes, high, low, sum]
  rfl

/-- A triple passes on its own bytes exactly when their CRC is 0 (40_crc R72). -/
theorem decWord_tripleBytes_ok_iff (v : BitVec 24) :
    (decWord (v.extractLsb' 16 8) (v.extractLsb' 8 8) (v.extractLsb' 0 8)).1 = true ↔ crc8 (tripleBytes v) = 0#8 :=
  decWord_ok_iff_residue _ _ _

theorem crc8_encWord (w : Word16) : crc8 (encWord w) = 0#8 :=
  appendedChecksumLeavesZero.1 (wordBytes w)

/-- What is left of a damaged triple is the CRC of the error, from register 0. -/
theorem crc8_tripleBytes_damaged (w : Word16) (e : BitVec 24) :
    crc8 (tripleBytes ((w ++ crc8 (wordBytes w)) ^^^ e)) = crc8From 0#8 (tripleBytes e) := by
  have sameLength : (encWord w).length = (tripleBytes e).length := rfl
  calc crc8 (tripleBytes ((w ++ crc8 (wordBytes w)) ^^^ e))
      = crc8From (crcInit ^^^ 0#8) (List.zipWith (· ^^^ ·) (encWord w) (tripleBytes e)) := by
        rw [tripleBytes_xor, tripleBytes_encoded, BitVec.xor_zero, crc8]
    _ = crc8 (encWord w) ^^^ crc8From 0#8 (tripleBytes e) := crc8From_zipWith_xor sameLength crcInit 0#8
    _ = crc8From 0#8 (tripleBytes e) := by rw [crc8_encWord, BitVec.zero_xor]

/-- A single bit lies in one byte of the triple: `i / 8` bytes are below it and the rest above. -/
theorem tripleBytes_singleBit : ∀ i : Fin 24,
    tripleBytes (1#24 <<< i.val) =
      List.replicate (2 - i.val / 8) 0#8 ++ (1#8 <<< (i.val % 8)) :: List.replicate (i.val / 8) 0#8 := by
  decide

theorem singleBit_ne_zero : ∀ k : Fin 8, 1#8 <<< k.val ≠ 0#8 := by decide

/-- Settles O26: a single-bit error lies within one byte. -/
theorem everySingleBitErrorIsDetected : Obligations.EverySingleBitErrorIsDetected := by
  intro w i hi v
  rw [← Bool.not_eq_true, decWord_tripleBytes_ok_iff]
  have residue : crc8 (tripleBytes v) = crc8From 0#8 (tripleBytes (1#24 <<< i)) := crc8_tripleBytes_damaged w _
  rw [residue, tripleBytes_singleBit ⟨i, hi⟩, crc8From_error_in_one_byte_eq_zero_iff]
  exact singleBit_ne_zero ⟨i % 8, Nat.mod_lt i (by omega)⟩

/-! ### FR.ENCW and FR.DECW (41_framer R79, R80, R87) -/

theorem exec_frEncw (w : Word16) (s : State) :
    exec (.frEncw w) s = .next { s with resp := some (bytesResponse (encWord w) s.crc) } := rfl

theorem decWord_encoded (w : Word16) : decWord (hi w) (lo w) (crc8 (wordBytes w)) = (true, w) := by
  rw [decWord, word, hi_append_lo]
  exact if_pos rfl

/-- FR.DECW of an encoded word answers the word's two bytes. -/
theorem exec_frDecw_encoded (w : Word16) (s : State) :
    exec (.frDecw (hi w) (lo w) (crc8 (wordBytes w))) s =
      .next { s with resp := some ⟨.ok, s.crc, 2#4, w ++ 0#56, 0#2, 0#8, 0#7⟩ } := by
  have ok : (decWord (hi w) (lo w) (crc8 (wordBytes w))).1 = true := by rw [decWord_encoded]
  calc exec (.frDecw (hi w) (lo w) (crc8 (wordBytes w))) s
      = .next { s with resp := some (bytesResponse (wordBytes w) s.crc) } := if_pos ok
    _ = .next { s with resp := some ⟨.ok, s.crc, 2#4, w ++ 0#56, 0#2, 0#8, 0#7⟩ } := by
        rw [bytesResponse, packLeft_wordBytes]
        rfl

/-- Settles O23: the payload of FR.ENCW is the packed triple. -/
theorem encodedWordIsATriple : Obligations.EncodedWordIsATriple := by
  refine ⟨decodeRequest_frEncw, fun w s => ?_⟩
  rw [exec_frEncw, bytesResponse, packLeft_encWord]
  rfl

/-- Settles O25: the payload's bytes are those of the triple, which passes its own check. -/
theorem wordRoundTrip : Obligations.WordRoundTrip := by
  refine ⟨fun w => ⟨_, _, _, rfl, decWord_encoded w⟩, fun w s t r hexec hr => ?_⟩
  rw [exec_frEncw] at hexec
  injection hexec with ht
  obtain rfl : bytesResponse (encWord w) s.crc = r := by simpa [← ht] using hr
  have byte {i : Nat} (hi : i < 9) : byteAt (bytesResponse (encWord w) s.crc).payload i = (encWord w).getD i 0#8 :=
    byteAt_packLeft _ hi
  rw [byte (by omega), byte (by omega), byte (by omega)]
  exact exec_frDecw_encoded w t

/-! ### FR.ENC SET_IAQ_BASELINE (41_framer R82, R83) -/

theorem isZeroPair_iff (co2 tvoc : Word16) : isZeroPair co2 tvoc = true ↔ co2 = 0#16 ∧ tvoc = 0#16 := by
  simp [isZeroPair]

theorem exec_frEncSetIaqBaseline_zero (s : State) :
    exec (.frEncSetIaqBaseline 0#16 0#16) s = raise .invalidBaseline s := rfl

theorem exec_frEncSetIaqBaseline_of_ne_zero {co2 tvoc : Word16} (h : ¬(co2 = 0#16 ∧ tvoc = 0#16)) (s : State) :
    exec (.frEncSetIaqBaseline co2 tvoc) s = answerCommand .setIaqBaseline [tvoc, co2] s :=
  if_neg (mt (isZeroPair_iff co2 tvoc).mp h)

/-- Settles O28: the frame's payload words are TVOC, then CO2. -/
theorem setBaselineSendsTvocFirst : Obligations.SetBaselineSendsTvocFirst := by
  refine ⟨fun d => ?_, fun co2 tvoc s h => ?_⟩
  · exact (decodeRequest_frEnc 3#4 d).trans (decodeEnc_selIndex d .setIaqBaseline)
  · rw [exec_frEncSetIaqBaseline_of_ne_zero h, answerCommand_eq, bytesResponse, packLeft_commandFrame_pair]
    rfl

/-- A request that completes gives the host its response. -/
theorem issue_of_complete {i : Instr} {r : Response} {s : State} (h : exec i s = complete r s) :
    issue i s = some (r, { s with resp := some r }) := by
  simp [issue, h, complete_eq]

/-- A command that FR.ENC rejects is given up before the first transport call (70_reset_and_hazards R121). -/
theorem runCommand_of_rejected {c : Selector} {co2 tvoc : Word16} {s t : State} {r : Response}
    (h : issue (encInstr c co2 tvoc) s = some (r, t)) (hr : r.status ≠ .ok) (x : Transport) :
    runCommand c co2 tvoc x s = some ⟨.error r.status, [], t⟩ := by
  simp [runCommand, h, hr]

/-- Settles O29: the zero pair raises, which ends the host's transaction; with one zero word the pair is framed. -/
theorem zeroBaselineIsRejectedBeforeTheBus : Obligations.ZeroBaselineIsRejectedBeforeTheBus := by
  refine ⟨exec_frEncSetIaqBaseline_zero, fun x s => ?_, fun w s hw => ?_⟩
  · have rejected := issue_of_complete (exec_frEncSetIaqBaseline_zero s)
    exact ⟨_, runCommand_of_rejected (c := .setIaqBaseline) rejected (by simp [bareResponse]) x, rfl, rfl⟩
  · exact ⟨_, _, _, _, exec_frEncSetIaqBaseline_of_ne_zero (fun h => hw h.2) s, rfl, rfl, rfl,
      exec_frEncSetIaqBaseline_of_ne_zero (fun h => hw h.1) s, rfl, rfl, rfl⟩

/-! ### FR.DEC (41_framer R84, R85, R92) -/

/-- A frame of encoded words decodes to the words; bytes after it are ignored (41_framer R84). -/
theorem decFrame_flatMap_encWord (ws : List Word16) (after : List Byte) :
    decFrame ws.length (ws.flatMap encWord ++ after) = some ws := by
  induction ws with
  | nil => rfl
  | cons w ws ih =>
    have first : (w :: ws).flatMap encWord ++ after
        = hi w :: lo w :: crc8 (wordBytes w) :: (ws.flatMap encWord ++ after) := rfl
    rw [first, List.length_cons, decFrame, decWord_encoded, ih]
    rfl

theorem answerReply_flatMap_encWord {c : Selector} {ws : List Word16} (h : ws.length = (rom c).replyWords) (s : State) :
    answerReply c (ws.flatMap encWord) s = answer (ws.flatMap wordBytes) s := by
  have decoded : decFrame (rom c).replyWords (ws.flatMap encWord) = some ws := by
    simpa [h] using decFrame_flatMap_encWord ws []
  rw [answerReply, decoded]

/-- Settles O33: the three words are the top of the payload, 24 zero bits below them. -/
theorem serialNumberIsTheTopOfThePayload : Obligations.SerialNumberIsTheTopOfThePayload := by
  intro w0 w1 w2 s
  have reply : exec (.frDecGetSerialId ([w0, w1, w2].flatMap encWord)) s = answer ([w0, w1, w2].flatMap wordBytes) s :=
    answerReply_flatMap_encWord (c := .getSerialId) rfl s
  refine ⟨_, _, reply, rfl, rfl, ?_⟩
  rw [bytesResponse, packLeft_three_words]
  exact BitVec.extractLsb'_append_eq_left

/-- Settles O34: no words to check, so the reply decodes to none. -/
theorem emptyRepliesAlwaysComplete : Obligations.EmptyRepliesAlwaysComplete := by
  have dec c d := (decodeRequest_frDec (selIndex c) d).trans (decodeDec_selIndex d c)
  have empty {c : Selector} (h : (rom c).replyWords = 0) (s : State) : answerReply c [] s = answer [] s :=
    answerReply_flatMap_encWord (ws := []) h.symm s
  exact ⟨fun d => ⟨dec .iaqInit d, dec .setIaqBaseline d⟩,
    fun s => ⟨empty (c := .iaqInit) rfl s, empty (c := .setIaqBaseline) rfl s⟩⟩

/-! ### FR.CHKFS (41_framer R86) -/

theorem featuresetMatches_iff (w : Word16) : featuresetMatches w = true ↔ w = featuresetExpected := beq_iff_eq

theorem exec_frChkfs_expected (s : State) : exec (.frChkfs featuresetExpected) s = acknowledge s := rfl

theorem exec_frChkfs_of_ne {w : Word16} (h : w ≠ featuresetExpected) (s : State) :
    exec (.frChkfs w) s = raise .deviceNotDetected s :=
  if_neg (mt (featuresetMatches_iff w).mp h)

/-- Settles O35: the comparison of FR.CHKFS is equality with the expected word. -/
theorem onlyTheExpectedIdentityPasses : Obligations.OnlyTheExpectedIdentityPasses :=
  ⟨decodeRequest_frChkfs, exec_frChkfs_expected, fun _ s h => exec_frChkfs_of_ne h s⟩

end Sys2Proof.Machine
end

section
/-! PROOFS. The family of 60_exceptions: what a non-OK status leaves behind (R97) and the statuses of each op (R98). -/

namespace Sys2Proof.Machine

/-! ### The statuses a result can show (60_exceptions R96)

Each shared completion fixes its status; what an op can answer is then read off the completions it chooses from. -/

/-- Every response that the result shows has one of the statuses `sts`. -/
def StatusIn (sts : List Status) (o : Result) : Prop :=
  ∀ (t : State) (r : Response), o = .next t → t.resp = some r → r.status ∈ sts

theorem statusIn_complete {sts : List Status} {r : Response} (h : r.status ∈ sts) (s : State) :
    StatusIn sts (complete r s) := by
  intro t r' ht hr
  rw [complete_eq] at ht
  injection ht with ht
  obtain rfl : r = r' := by simpa [← ht] using hr
  exact h

theorem statusIn_raise {sts : List Status} {st : Status} (h : st ∈ sts) (s : State) : StatusIn sts (raise st s) :=
  statusIn_complete h s

theorem statusIn_ite {sts : List Status} {p : Prop} [Decidable p] {x y : Result} (hx : StatusIn sts x)
    (hy : StatusIn sts y) : StatusIn sts (if p then x else y) := by
  split
  · exact hx
  · exact hy

section
variable {sts : List Status} (hok : .ok ∈ sts) (s : State)
include hok

theorem statusIn_acknowledge : StatusIn sts (acknowledge s) := statusIn_complete hok s

theorem statusIn_writeCrc (v : Byte) : StatusIn sts (writeCrc v s) := statusIn_complete hok _

theorem statusIn_answer (bytes : List Byte) : StatusIn sts (answer bytes s) := statusIn_complete hok s

theorem statusIn_answerCommand (c : Selector) (payload : List Word16) : StatusIn sts (answerCommand c payload s) :=
  statusIn_complete hok s

end

theorem statusIn_answerReply (c : Selector) (bytes : List Byte) (s : State) :
    StatusIn [.ok, .checksumMismatch] (answerReply c bytes s) := by
  rcases answerReply_cases c bytes s with ⟨ws, -, words⟩ | ⟨-, raised⟩
  · rw [words]
    exact statusIn_answer (by simp) s _
  · rw [raised]
    exact statusIn_raise (by simp) s

/-! ### The effect of a non-OK status (60_exceptions R97) -/

/-- A request's only completion with a status other than OK is `raise`. -/
theorem exec_statusIn_ok_or_raise {i : Instr} (hreq : i.isRequest = true) (s : State) :
    StatusIn [.ok] (exec i s) ∨ ∃ st, exec i s = raise st s := by
  have hok : Status.ok ∈ [Status.ok] := by simp
  rcases exec_request_cases hreq s with e | ⟨v, e⟩ | ⟨st, -, -, e⟩ | ⟨bs, -, e⟩ | ⟨c, ps, -, e⟩ | ⟨c, bs, e⟩
  · exact .inl (e ▸ statusIn_acknowledge hok s)
  · exact .inl (e ▸ statusIn_writeCrc hok s v)
  · exact .inr ⟨st, e⟩
  · exact .inl (e ▸ statusIn_answer hok s bs)
  · exact .inl (e ▸ statusIn_answerCommand hok s c ps)
  · rcases answerReply_cases c bs s with ⟨ws, -, words⟩ | ⟨-, raised⟩
    · exact .inl (e ▸ words ▸ statusIn_answer hok s _)
    · exact .inr ⟨_, e.trans raised⟩

/-- Settles O37: the request was raised, and `raise` writes the response port only. -/
theorem errorStatusChangesNothing : Obligations.ErrorStatusChangesNothing := by
  intro i s t r hreq hexec hr hne
  rcases exec_statusIn_ok_or_raise hreq s with ok | ⟨st, raised⟩
  · exact absurd (List.mem_singleton.mp (ok t r hexec hr)) hne
  · rw [hexec, raise_eq] at raised
    injection raised with ht
    obtain rfl : bareResponse st s.crc = r := by simpa [ht] using hr
    exact ht

/-! ### The statuses of each op (60_exceptions R98) -/

theorem statusIn_exec_reserved {i : Instr} (h : i ∈ reservedInstrs) (s : State) :
    StatusIn [.illegalOp] (exec i s) := by
  rw [exec_reserved h]
  exact statusIn_raise (by simp) s

theorem statusIn_exec_frDecw (t0 t1 t2 : Byte) (s : State) :
    StatusIn [.ok, .checksumMismatch] (exec (.frDecw t0 t1 t2) s) :=
  statusIn_ite (statusIn_answer (by simp) s [t0, t1]) (statusIn_raise (by simp) s)

theorem statusIn_exec_frEncSetIaqBaseline (co2 tvoc : Word16) (s : State) :
    StatusIn [.ok, .invalidBaseline] (exec (.frEncSetIaqBaseline co2 tvoc) s) :=
  statusIn_ite (statusIn_raise (by simp) s) (statusIn_answerCommand (by simp) s .setIaqBaseline [tvoc, co2])

theorem statusIn_exec_frChkfs (w : Word16) (s : State) :
    StatusIn [.ok, .deviceNotDetected] (exec (.frChkfs w) s) :=
  statusIn_ite (statusIn_acknowledge (by simp) s) (statusIn_raise (by simp) s)

/-- A command without payload words is always framed (41_framer R81). -/
theorem exec_encInstr {c : Selector} (h : c ≠ .setIaqBaseline) (co2 tvoc : Word16) (s : State) :
    exec (encInstr c co2 tvoc) s = answerCommand c [] s := by
  cases c
  case setIaqBaseline => exact absurd rfl h
  all_goals rfl

/-- FR.DEC answers the reply of its selector; without reply words the bytes do not matter (41_framer R84, R85). -/
theorem exec_decInstr (c : Selector) (bytes : List Byte) (s : State) :
    exec (decInstr c bytes) s = answerReply c bytes s := by
  cases c <;> rfl

theorem exists_selIndex {sel : BitVec 4} (h : sel.toNat ≤ 5) : ∃ c, selIndex c = sel := by
  obtain rfl | rfl | rfl | rfl | rfl | rfl :
      sel = 0#4 ∨ sel = 1#4 ∨ sel = 2#4 ∨ sel = 3#4 ∨ sel = 4#4 ∨ sel = 5#4 := by bv_omega
  exacts [⟨.iaqInit, rfl⟩, ⟨.measureIaq, rfl⟩, ⟨.getIaqBaseline, rfl⟩, ⟨.setIaqBaseline, rfl⟩, ⟨.getSerialId, rfl⟩,
    ⟨.getFeatureset, rfl⟩]

section
variable (d : Field72) (s : State)

/-- NOP, the ops of CRCG and FR.ENCW have no error. -/
theorem statusIn_of_op_le_four {op : BitVec 4} (h : op.toNat ≤ 4) (sel : BitVec 4) :
    StatusIn [.ok] (exec (decodeRequest (mkRequest op sel d)) s) := by
  have hok : Status.ok ∈ [Status.ok] := by simp
  obtain rfl | rfl | rfl | rfl | rfl : op = 0#4 ∨ op = 1#4 ∨ op = 2#4 ∨ op = 3#4 ∨ op = 4#4 := by bv_omega
  · rw [decodeRequest_nop]
    exact statusIn_acknowledge hok s
  · rw [decodeRequest_crcInit]
    exact statusIn_writeCrc hok s _
  · rw [decodeRequest_crcByte]
    exact statusIn_writeCrc hok s _
  · rw [decodeRequest_crcBit]
    exact statusIn_writeCrc hok s _
  · rw [decodeRequest_frEncw]
    exact statusIn_answer hok s _

/-- FR.ENC with the selector of a command without payload words. -/
theorem statusIn_decodeEnc {sel : BitVec 4} (hle : sel.toNat ≤ 5) (hne : sel ≠ 3#4) :
    StatusIn [.ok] (exec (decodeEnc sel d) s) := by
  obtain ⟨c, rfl⟩ := exists_selIndex hle
  have hc : c ≠ .setIaqBaseline := fun h => hne (h ▸ rfl)
  rw [decodeEnc_selIndex, exec_encInstr hc]
  exact statusIn_answerCommand (by simp) s c []

/-- FR.DEC with the selector of a command. -/
theorem statusIn_decodeDec {sel : BitVec 4} (hle : sel.toNat ≤ 5) :
    StatusIn [.ok, .checksumMismatch] (exec (decodeDec sel d) s) := by
  obtain ⟨c, rfl⟩ := exists_selIndex hle
  rw [decodeDec_selIndex, exec_decInstr]
  exact statusIn_answerReply c _ s

/-- FR.DEC with the selector of a command without reply words: there is no checksum to fail (41_framer R85). -/
theorem statusIn_decodeDec_empty {sel : BitVec 4} (h : sel = 0#4 ∨ sel = 3#4) :
    StatusIn [.ok] (exec (decodeDec sel d) s) := by
  rcases h with rfl | rfl
  · exact statusIn_answer (by simp) s []
  · exact statusIn_answer (by simp) s []

end

/-- Settles O38: each row is the list of the op that the request decodes to. -/
theorem statusesOfEachOp : Obligations.StatusesOfEachOp := by
  intro op sel d s t r hexec hr
  have mem {sts : List Status} (h : StatusIn sts (exec (decodeRequest (mkRequest op sel d)) s)) : r.status ∈ sts :=
    h t r hexec hr
  have only {st : Status} (h : StatusIn [st] (exec (decodeRequest (mkRequest op sel d)) s)) : r.status = st :=
    List.mem_singleton.mp (mem h)
  refine ⟨fun hop => ?_, ?_, ?_, ?_, ?_, ?_, fun hop hsel => ?_, ?_, fun hop => ?_⟩
  · exact only (statusIn_of_op_le_four d s hop sel)
  · rintro rfl
    exact mem (decodeRequest_frDecw sel d ▸ statusIn_exec_frDecw _ _ _ s)
  · rintro rfl ⟨hle, hne⟩
    exact only (decodeRequest_frEnc sel d ▸ statusIn_decodeEnc d s hle hne)
  · rintro rfl rfl
    exact mem (decodeRequest_frEnc 3#4 d ▸ statusIn_exec_frEncSetIaqBaseline _ _ s)
  · rintro rfl hsel
    exact only (decodeRequest_frDec sel d ▸ statusIn_decodeDec_empty d s hsel)
  · rintro rfl hsel
    have hle : sel.toNat ≤ 5 := by rcases hsel with rfl | rfl | rfl | rfl <;> decide
    exact mem (decodeRequest_frDec sel d ▸ statusIn_decodeDec d s hle)
  · exact only (statusIn_exec_reserved (decodeRequest_mem_reserved_of_sel hop hsel d) s)
  · rintro rfl
    exact mem (decodeRequest_frChkfs sel d ▸ statusIn_exec_frChkfs _ s)
  · exact only (statusIn_exec_reserved (decodeRequest_mem_reserved_of_op hop sel d) s)

end Sys2Proof.Machine
end

section
/-! PROOFS. The family of 70_reset_and_hazards: reset in the middle of a CRC.BYTE (R112). -/

namespace Sys2Proof.Machine

/-- In the middle of a CRC.BYTE the invariant describes a SERIAL build, out of reset, with no response shown
(10_state R27, R31). -/
theorem serialInv_of_inProgress {s : State} (hp : s.inProgress = true) :
    serialInv s = true ↔ s.build.crcImpl = .serial ∧ s.rst = false ∧ s.resp = none ∧
      s.serialReg = feedBits s.crc s.serialByte s.serialCount.toNat := by
  simp [serialInv, hp, and_assoc]

theorem inv_iff (s : State) : s.inv = true ↔ portInv s = true ∧ serialInv s = true ∧ resetInv s = true := by
  simp [State.inv, and_assoc]

/-! ### What can start a byte (10_state R27, 70 R117)

Only a clock edge of a SERIAL build does: every other act of a step leaves the progress counter alone. -/

section
variable {s t : State}

theorem exec_inProgress {i : Instr} (h : exec i s = .next t) : t.inProgress = s.inProgress := by
  obtain ⟨u, hu, -, -, hprogress⟩ := exec_crcAfter i s
  cases hu.symm.trans h
  exact hprogress

theorem runFetched_inProgress {f : Fetched} (h : runFetched f s = .next t) : t.inProgress = s.inProgress := by
  cases f with
  | request w => exact exec_inProgress ((runFetched_request w s).symm.trans h)
  | command k =>
    obtain ⟨i, -, hi⟩ | ⟨-, hbad⟩ := runFetched_command k s
    · exact exec_inProgress (hi.symm.trans h)
    · cases (hbad.trans (badInput_eq s)).symm.trans h
      rfl

theorem endTransaction_inProgress {ms : Nat} (h : endTransaction ms s = .next t) : t.inProgress = s.inProgress := by
  obtain ⟨-, he⟩ | ⟨_, -, -, he⟩ | ⟨_, -, -, he⟩ := endTransaction_cases ms s <;>
  · cases he.symm.trans h
    rfl

theorem step_command {k : Word16} {rest : List Event} (h : s.inbox = .command k :: rest)
    (hp : s.inProgress = false) : step s = runFetched (.command k) (accept rest s) := by
  simp [step, serveEvent, h, hp]

/-- Acceptance at an edge starts a byte in a SERIAL build only (10_state R30). -/
theorem acceptAtEdge_inProgress_of_parallel {w : Request} (hb : s.build.crcImpl = .parallel)
    (h : acceptAtEdge w s = .next t) : t.inProgress = s.inProgress := by
  obtain ⟨_, hserial, -, -⟩ | ⟨-, hexec⟩ := acceptAtEdge_cases w s
  · exact absurd (hserial.symm.trans hb) (by decide)
  · exact exec_inProgress (hexec.symm.trans h)

theorem clockEdge_not_inProgress_of_parallel {p : Pins} {rest : List Event} (hb : s.build.crcImpl = .parallel)
    (hp : s.inProgress = false) (h : clockEdge p rest s = .next t) : t.inProgress = false := by
  obtain ⟨-, he⟩ | ⟨-, hbusy, -⟩ | ⟨-, -, -, he⟩ | ⟨-, -, -, he⟩ := clockEdge_cases p rest s
  · cases he.symm.trans h
    rfl
  · exact absurd (hbusy.symm.trans hp) (by decide)
  · exact (acceptAtEdge_inProgress_of_parallel (s := accept rest s) hb (he.symm.trans h)).trans hp
  · cases he.symm.trans h
    exact hp

/-- In a PARALLEL build no step starts a byte (10_state R27). -/
theorem step_not_inProgress_of_parallel (hb : s.build.crcImpl = .parallel) (hp : s.inProgress = false)
    (h : step s = .next t) : t.inProgress = false := by
  cases hin : s.inbox with
  | nil =>
    cases (step_idle hin hp).symm.trans h
    exact hp
  | cons e rest =>
    cases e with
    | reset =>
      cases (step_reset hin).symm.trans h
      rfl
    | clock p => exact clockEdge_not_inProgress_of_parallel hb hp ((step_clock hin).symm.trans h)
    | request w => exact (exec_inProgress ((step_request hin hp).symm.trans h)).trans hp
    | command k => exact (runFetched_inProgress ((step_command hin hp).symm.trans h)).trans hp
    | finish ms => exact (endTransaction_inProgress ((step_finish hin hp).symm.trans h)).trans hp
    | abandon =>
      cases ((step_abandon hin hp).trans (abandonTransaction_eq _)).symm.trans h
      exact hp
    | constructed =>
      cases ((step_constructed hin hp).trans (renewHandle_eq _)).symm.trans h
      exact hp

end

/-- Settles O44: the invariant shows no response in mid-byte, and `takeReset` clears the progress counter; a PARALLEL
build never starts a byte. -/
theorem resetAbandonsTheByteInProgress : Obligations.ResetAbandonsTheByteInProgress := by
  refine ⟨fun s later hinv hp hin => ?_, fun s t hb hp h => step_not_inProgress_of_parallel hb hp h⟩
  obtain ⟨-, hserial, -⟩ := (inv_iff s).mp hinv
  obtain ⟨-, -, hresp, -⟩ := (serialInv_of_inProgress hp).mp hserial
  exact ⟨hresp, _, step_reset hin, takeReset_resp _, takeReset_crc _, takeReset_inProgress _, takeReset_inbox _⟩

end Sys2Proof.Machine
end

section
/-! PROOFS. Encoding: the layout of byte sequences (20_memory R41), decoding an encoded instruction and what the
decoder gives (30_encoding R46 to R52), and the opcode table (INDEX.md). -/

namespace Sys2Proof.Machine

/-! ### Byte sequences in a field (20_memory R41) -/

/-- The bytes put into a field are read back from its top. -/
theorem takeBytes_packLeft {bs : List Byte} {n : Nat} (h : bs.length = n) (hn : n ≤ 9) :
    takeBytes n (packLeft bs) = bs := by
  refine List.ext_getElem (by simp [h]) fun i hi hi' => ?_
  have hbyte := byteAt_packLeft bs (i := i) (by omega)
  rw [List.getD_eq_getElem bs 0#8 hi'] at hbyte
  simpa [takeBytes] using hbyte

theorem packLeft_two_bytes (a b : Byte) : packLeft [a, b] = a ++ b ++ 0#56 := by
  simp only [packLeft_cons, packLeft_nil]
  rw [pushTop_pushTop]
  exact pushTop_zero _ rfl

theorem packLeft_three_bytes (a b c : Byte) : packLeft [a, b, c] = a ++ b ++ c ++ 0#48 := by
  simp only [packLeft_cons, packLeft_nil]
  rw [pushTop_pushTop, pushTop_pushTop]
  exact pushTop_zero _ rfl

theorem packLeft_four_bytes (a b c d : Byte) : packLeft [a, b, c, d] = a ++ b ++ c ++ d ++ 0#40 := by
  simp only [packLeft_cons, packLeft_nil]
  rw [pushTop_pushTop, pushTop_pushTop, pushTop_pushTop]
  exact pushTop_zero _ rfl

theorem packLeft_six_bytes (a b c d e f : Byte) :
    packLeft [a, b, c, d, e, f] = a ++ b ++ c ++ d ++ e ++ f ++ 0#24 := by
  simp only [packLeft_cons, packLeft_nil]
  rw [pushTop_pushTop, pushTop_pushTop, pushTop_pushTop, pushTop_pushTop, pushTop_pushTop]
  exact pushTop_zero _ rfl

/-- Below the sequence every bit is zero. -/
theorem getLsbD_packLeft_below {bs : List Byte} {i : Nat} (h : i + 8 * bs.length < 72) :
    (packLeft bs).getLsbD i = false := by
  induction bs generalizing i with
  | nil => simp [packLeft_nil]
  | cons b bs ih =>
    rw [List.length_cons] at h
    rw [packLeft_cons, getLsbD_pushTop, if_pos (by omega), ih (by omega), Bool.and_false]

/-- Settles O7: each byte is the one read at its place, and no bit of the sequence lies below it. -/
theorem byteSequencesAreLeftAligned : Obligations.ByteSequencesAreLeftAligned := by
  intro bs hlen
  refine ⟨fun i hi => ?_, ?_⟩
  · have hbyte : (packLeft bs).extractLsb' (64 - 8 * i) 8 = bs.getD i 0#8 := byteAt_packLeft bs (by omega)
    rw [hbyte, List.getD_eq_getElem bs 0#8 hi, List.getElem?_eq_getElem hi]
  · apply BitVec.eq_of_getLsbD_eq
    intro i hi
    rw [BitVec.getLsbD_setWidth, getLsbD_packLeft_below (by omega)]
    simp

/-! ### Scalar operands (30_encoding R49) -/

/-- A value in the low bits of `data` is read back from them. -/
theorem extractLsb'_setWidth_self {n : Nat} (x : BitVec n) (h : n ≤ 72) : (x.setWidth 72).extractLsb' 0 n = x := by
  rw [BitVec.extractLsb'_setWidth_of_le (by omega), BitVec.extractLsb'_eq_self]

@[simp] theorem dataByte_setWidth (b : Byte) : dataByte (b.setWidth 72) = b := extractLsb'_setWidth_self b (by omega)

@[simp] theorem dataBit_setWidth (e : BitVec 1) : dataBit (e.setWidth 72) = e := extractLsb'_setWidth_self e (by omega)

@[simp] theorem dataWord_setWidth (w : Word16) : dataWord (w.setWidth 72) = w := extractLsb'_setWidth_self w (by omega)

@[simp] theorem dataWord_setWidth_append (a b : Word16) : dataWord ((a ++ b).setWidth 72) = b :=
  (BitVec.extractLsb'_setWidth_of_le (by omega)).trans BitVec.extractLsb'_append_eq_right

@[simp] theorem dataHighWord_setWidth_append (a b : Word16) : dataHighWord ((a ++ b).setWidth 72) = a :=
  (BitVec.extractLsb'_setWidth_of_le (by omega)).trans BitVec.extractLsb'_append_eq_left

/-! ### Decoding what was encoded (30_encoding R46 to R52) -/

@[simp] theorem decode_request (w : Request) : decode (.request w) = .ok (decodeRequest w) := rfl

theorem decode_command_of_some {k : Word16} {i : Instr} (h : decodeCommand k = some i) :
    decode (.command k) = .ok i := by
  simp [decode, h]

theorem decode_decSelWord (sel : BitVec 4) (r : List Byte) :
    decode (decSelWord sel r) = .ok (decodeDec sel (packLeft r)) := by
  rw [decSelWord, decode_request, decodeRequest_frDec]

/-- FR.DEC reads back a reply of the command's 3N bytes (30_encoding R49). -/
theorem decode_decSelWord_selIndex {c : Selector} {r : List Byte} (h : r.length = 3 * (rom c).replyWords) :
    decode (decSelWord (selIndex c) r) = .ok (decInstr c r) := by
  have hnine : 3 * (rom c).replyWords ≤ 9 := by cases c <;> decide
  rw [decode_decSelWord, decodeDec_selIndex, takeBytes_packLeft h hnine]

/-- Settles O1: an encoded word has the fields it was assembled from, and its operand is read back from `data`. -/
theorem decodeOfEncode : Obligations.DecodeOfEncode := by
  intro i hwf
  cases i
  -- operands in the low bits of `data`
  case crcByte | crcBit | frEncw | frChkfs => simp [encode]
  case frEncSetIaqBaseline co2 tvoc =>
    rw [encode, decode_request, decodeRequest_frEnc, decodeEnc_selIndex]
    simp [encInstr]
  -- operands that are left-aligned bytes
  case frDecw t0 t1 t2 => simp [encode, byteAt_packLeft]
  case frDecMeasureIaq r => exact decode_decSelWord_selIndex (c := .measureIaq) (eq_of_beq hwf)
  case frDecGetIaqBaseline r => exact decode_decSelWord_selIndex (c := .getIaqBaseline) (eq_of_beq hwf)
  case frDecGetSerialId r => exact decode_decSelWord_selIndex (c := .getSerialId) (eq_of_beq hwf)
  case frDecGetFeatureset r => exact decode_decSelWord_selIndex (c := .getFeatureset) (eq_of_beq hwf)
  -- the wire opcodes
  case sensorIaqInit | sensorMeasureIaq | sensorGetIaqBaseline | sensorSetIaqBaseline | sensorGetSerialId
      | sensorGetFeatureset =>
    exact decode_command_of_some rfl
  -- no operand: `op` and `sel` alone
  all_goals rfl

/-! ### What the decoder gives (30_encoding R47, R51) -/

/-- A well-formed request, as the request decoder gives it. -/
def IsDecodedRequest (i : Instr) : Prop := i.wellFormed = true ∧ i.isRequest = true

theorem isDecodedRequest_decodeEnc (sel : BitVec 4) (d : Field72) : IsDecodedRequest (decodeEnc sel d) := by
  unfold decodeEnc
  split
  all_goals exact ⟨rfl, rfl⟩

theorem isDecodedRequest_decodeDec (sel : BitVec 4) (d : Field72) : IsDecodedRequest (decodeDec sel d) := by
  unfold decodeDec
  split
  all_goals exact ⟨rfl, rfl⟩

theorem isDecodedRequest_decodeRequest (w : Request) : IsDecodedRequest (decodeRequest w) := by
  unfold decodeRequest
  split
  case h_7 => exact isDecodedRequest_decodeEnc _ _
  case h_8 => exact isDecodedRequest_decodeDec _ _
  all_goals exact ⟨rfl, rfl⟩

theorem wellFormed_of_not_isRequest {i : Instr} (h : i.isRequest = false) : i.wellFormed = true := by
  cases i <;> simp only [Instr.isRequest, Bool.true_eq_false] at h <;> rfl

/-- Settles O5: in every arm of the request decoder a reply has its 3N bytes; a wire word gives commands only. -/
theorem decodedInstructionsAreWellFormed : Obligations.DecodedInstructionsAreWellFormed := by
  refine ⟨isDecodedRequest_decodeRequest, fun k i h => ?_⟩
  obtain hnone | ⟨j, hj, hreq, -⟩ := decodeCommand_cases k
  · exact absurd (hnone.symm.trans h) (by simp)
  · obtain rfl : j = i := by simpa [hj] using h
    exact ⟨wellFormed_of_not_isRequest hreq, hreq⟩

/-- Settles O6: the decoder evaluated on the eight words. -/
theorem wordsOfEachFamilyDecode : Obligations.WordsOfEachFamilyDecode := by
  refine ⟨?_, ?_, ?_, ?_, ?_, ?_, ?_, ?_⟩
  all_goals decide +kernel

/-! ### One row for every request (INDEX.md)

Neither the masks of the table nor the mnemonic read `data`, so a row is selected by `op` and `sel` alone. -/

theorem selects_data_irrelevant {row : TableRow} (h : dataField row.mask = 0#72) (op sel : BitVec 4) (d : Field72) :
    row.selects (mkRequest op sel d) = row.selects (mkRequest op sel 0#72) := by
  rw [TableRow.selects, TableRow.selects, ← mkRequest_fields row.mask, h, mkRequest_and, mkRequest_and,
    BitVec.and_zero, BitVec.and_zero]

theorem dataField_mask_of_mem : ∀ row ∈ requestRows, dataField row.mask = 0#72 := by
  decide +kernel

theorem mnemonic_decodeEnc_data_irrelevant (sel : BitVec 4) (d : Field72) :
    (decodeEnc sel d).mnemonic = (decodeEnc sel 0#72).mnemonic := by
  unfold decodeEnc
  split
  all_goals rfl

theorem mnemonic_decodeDec_data_irrelevant (sel : BitVec 4) (d : Field72) :
    (decodeDec sel d).mnemonic = (decodeDec sel 0#72).mnemonic := by
  unfold decodeDec
  split
  all_goals rfl

theorem mnemonic_data_irrelevant (op sel : BitVec 4) (d : Field72) :
    (decodeRequest (mkRequest op sel d)).mnemonic = (decodeRequest (mkRequest op sel 0#72)).mnemonic := by
  simp only [decodeRequest, opField_mkRequest, selField_mkRequest, dataField_mkRequest]
  split
  case h_7 => exact mnemonic_decodeEnc_data_irrelevant sel d
  case h_8 => exact mnemonic_decodeDec_data_irrelevant sel d
  all_goals rfl

/-- The 256 pairs of `op` and `sel`. -/
theorem selected_rows_of_op_sel : ∀ op sel : BitVec 4,
    (requestRows.filter (fun row => row.selects (mkRequest op sel 0#72))).map (fun row => row.mnemonic)
      = [(decodeRequest (mkRequest op sel 0#72)).mnemonic] := by
  decide +kernel

/-- Settles O2: the row is decided by `op` and `sel`, and each of their 256 pairs selects one. -/
theorem everyRequestSelectsItsRowAlone : Obligations.EveryRequestSelectsItsRowAlone := by
  intro w
  have hrows : requestRows.filter (fun row => row.selects (mkRequest (opField w) (selField w) (dataField w)))
      = requestRows.filter (fun row => row.selects (mkRequest (opField w) (selField w) 0#72)) :=
    List.filter_congr fun row hrow => selects_data_irrelevant (dataField_mask_of_mem row hrow) _ _ _
  rw [← mkRequest_fields w, hrows, mnemonic_data_irrelevant]
  exact selected_rows_of_op_sel _ _

end Sys2Proof.Machine
end

section
/-! PROOFS. The packed response (30_encoding R55) and the assembler (30_encoding R59, R60). -/

namespace Sys2Proof.Machine

/-! ### The packed response (30_encoding R55; 60_exceptions R96) -/

/-- A field below the top one of a packed word. -/
theorem extractLsb'_below_top {m n start len : Nat} {x : BitVec m} {y : BitVec n} {z : BitVec len}
    (hfit : start + len ≤ n) (h : y.extractLsb' start len = z) : (x ++ y).extractLsb' start len = z :=
  (BitVec.extractLsb'_append_eq_of_add_le hfit).trans h

/-- Each field is the top of what is left after those above it. -/
theorem packResponse_fields (r : Response) :
    (packResponse r).extractLsb' 101 3 = r.status.code ∧ (packResponse r).extractLsb' 93 8 = r.crc ∧
    (packResponse r).extractLsb' 89 4 = r.len ∧ (packResponse r).extractLsb' 87 2 = r.rxw ∧
    (packResponse r).extractLsb' 79 8 = r.delayMs ∧ (packResponse r).extractLsb' 72 7 = r.addr ∧
    (packResponse r).extractLsb' 0 72 = r.payload := by
  have top {m n : Nat} (x : BitVec m) (y : BitVec n) : (x ++ y).extractLsb' n m = x := BitVec.extractLsb'_append_eq_left
  refine ⟨top _ _, ?_, ?_, ?_, ?_, ?_, ?_⟩
  all_goals repeat refine extractLsb'_below_top (by decide) ?_
  case refine_6 => exact BitVec.extractLsb'_eq_self
  all_goals exact top _ _

/-- Settles O8: the fields of a packed response, and the table of status codes. -/
theorem packedResponseFields : Obligations.PackedResponseFields :=
  ⟨packResponse_fields, rfl, rfl, rfl, rfl, rfl, rfl, rfl, rfl, statusOfCode_code⟩

/-- A code that names a status is that status's code. -/
theorem code_of_statusOfCode {c : BitVec 3} {st : Status} (h : statusOfCode c = some st) : st.code = c := by
  unfold statusOfCode at h
  split at h
  case h_7 => cases h
  all_goals
    next hc =>
      cases h
      exact BitVec.eq_of_toNat_eq hc.symm

/-- A packed word is its seven fields. -/
theorem append_fields (p : BitVec 104) :
    p.extractLsb' 101 3 ++ (p.extractLsb' 93 8 ++ (p.extractLsb' 89 4 ++ (p.extractLsb' 87 2 ++
      (p.extractLsb' 79 8 ++ (p.extractLsb' 72 7 ++ p.extractLsb' 0 72))))) = p := by
  have join {start₂ start₁ len₁ len₂ : Nat} (h : start₂ = start₁ + len₁) :
      p.extractLsb' start₂ len₂ ++ p.extractLsb' start₁ len₁ = p.extractLsb' start₁ (len₂ + len₁) :=
    BitVec.extractLsb'_append_extractLsb'_eq_extractLsb' h
  rw [join, join, join, join, join, join]
  · exact BitVec.extractLsb'_eq_self
  all_goals rfl

/-- Settles O60: the fields and the status are read back as packed, and codes 5 and 6 name no status. -/
theorem packedResponseIsReadBack : Obligations.PackedResponseIsReadBack := by
  refine ⟨fun r => ?_, fun p r h => ?_, fun p h => ?_⟩
  · obtain ⟨hstatus, hcrc, hlen, hrxw, hdelay, haddr, hpayload⟩ := packResponse_fields r
    rw [unpackResponse, hstatus, statusOfCode_code, hcrc, hlen, hrxw, hdelay, haddr, hpayload]
  · unfold unpackResponse at h
    split at h
    · cases h
    · next st hst =>
        cases h
        rw [packResponse, code_of_statusOfCode hst]
        exact append_fields p
  · have none_of_reserved : statusOfCode (p.extractLsb' 101 3) = none := by
      rcases h with h | h <;> rw [h] <;> rfl
    rw [unpackResponse, none_of_reserved]

/-! ### The assembler (30_encoding R59, R60) -/

/-- A line whose operands are in their range, given as `P`, assembles to the words of its expansion. -/
theorem assemble_eq_ite {l : AsmLine} {P : Prop} [Decidable P] {fs : List Fetched} (hP : l.wellFormed = true ↔ P)
    (hfs : P → (expandLine l).map encode = fs) : assemble l = if P then some fs else none := by
  unfold assemble
  by_cases h : P
  · rw [if_pos (hP.mpr h), if_pos h, hfs h]
  · rw [if_neg (mt hP.mp h), if_neg h]

theorem assemble_eq_some_iff {l : AsmLine} {fs : List Fetched} :
    assemble l = some fs ↔ l.wellFormed = true ∧ (expandLine l).map encode = fs := by
  simp [assemble]

/-- A number in the range of `n` bits, as an operand in the low bits of `data`. -/
theorem setWidth_ofNat_of_lt {n x : Nat} (h : x < 2 ^ n) : (BitVec.ofNat n x).setWidth 72 = BitVec.ofNat 72 x := by
  apply BitVec.eq_of_toNat_eq
  rw [BitVec.toNat_setWidth, BitVec.toNat_ofNat, BitVec.toNat_ofNat, Nat.mod_eq_of_lt h]

theorem setWidth_hi_ofNat {w : Nat} (h : w < 65536) :
    (hi (BitVec.ofNat 16 w)).setWidth 72 = BitVec.ofNat 72 (w / 256) := by
  apply BitVec.eq_of_toNat_eq
  simp [hi, Nat.shiftRight_eq_div_pow, Nat.mod_eq_of_lt h]
  omega

theorem setWidth_lo_ofNat (w : Nat) : (lo (BitVec.ofNat 16 w)).setWidth 72 = BitVec.ofNat 72 (w % 256) := by
  apply BitVec.eq_of_toNat_eq
  simp [lo]

theorem setWidth_bitMsbFirst_ofNat {b : Nat} (h : b < 256) (k : Nat) :
    (bitMsbFirst (BitVec.ofNat 8 b) k).setWidth 72 = BitVec.ofNat 72 (b / 2 ^ (7 - k) % 2) := by
  apply BitVec.eq_of_toNat_eq
  simp [bitMsbFirst, Nat.shiftRight_eq_div_pow, Nat.mod_eq_of_lt h]

theorem setWidth_append_eq_zero_append (a b : Word16) : (a ++ b).setWidth 72 = 0#40 ++ a ++ b := by
  apply BitVec.eq_of_getLsbD_eq
  intro i hi
  simp only [BitVec.getLsbD_setWidth, BitVec.getLsbD_append, BitVec.getLsbD_zero]
  grind

/-- `fr.enc NAME` writes 0 into every bit of `data`. -/
theorem encode_encInstr_zero (c : Selector) : encode (encInstr c 0#16 0#16) = encSelWord (selIndex c) := by
  cases c <;> rfl

theorem encode_decInstr {c : Selector} {r : List Byte} (h : r.length = 3 * (rom c).replyWords) :
    encode (decInstr c r) = decSelWord (selIndex c) r := by
  cases c
  case iaqInit | setIaqBaseline =>
    obtain rfl := List.length_eq_zero_iff.mp h
    rfl
  all_goals rfl

theorem assemble_frEnc (c : Selector) : assemble (.frEnc c) = some [encSelWord (selIndex c)] := by
  simp [assemble, AsmLine.wellFormed, expandLine, encode_encInstr_zero]

theorem assemble_frDec (c : Selector) (r : List Nat) :
    assemble (.frDec c r) =
      if r.length = 3 * (rom c).replyWords ∧ ∀ x ∈ r, x < 256 then
        some [decSelWord (selIndex c) (r.map (BitVec.ofNat 8))]
      else none := by
  refine assemble_eq_ite (by simp [AsmLine.wellFormed]) fun h => ?_
  simp [expandLine, encode_decInstr (c := c) (r := r.map (BitVec.ofNat 8)) (by simpa using h.1)]

theorem assemble_crcCalc (bs : List Nat) :
    assemble (.crcCalc bs) =
      if bs ≠ [] ∧ ∀ b ∈ bs, b < 256 then
        some (.request (mkRequest 0x1#4 0#4 0#72) ::
          bs.map (fun b => .request (mkRequest 0x2#4 0#4 (BitVec.ofNat 72 b))))
      else none := by
  refine assemble_eq_ite (by simp [AsmLine.wellFormed]) fun h => ?_
  have bytes : (bs.map fun b => Instr.crcByte (BitVec.ofNat 8 b)).map encode
      = bs.map fun b => .request (mkRequest 0x2#4 0#4 (BitVec.ofNat 72 b)) := by
    rw [List.map_map]
    refine List.map_congr_left fun b hb => ?_
    simp [encode, setWidth_ofNat_of_lt (n := 8) (h.2 b hb)]
  rw [expandLine, List.map_cons, bytes]
  rfl

theorem assemble_crcBits8 (b : Nat) :
    assemble (.crcBits8 b) =
      if b < 256 then
        some ([b / 128, b / 64, b / 32, b / 16, b / 8, b / 4, b / 2, b].map
          (fun n => .request (mkRequest 0x3#4 0#4 (BitVec.ofNat 72 (n % 2)))))
      else none := by
  refine assemble_eq_ite (by simp [AsmLine.wellFormed]) fun h => ?_
  simp [expandLine, bitInstrs, List.range_succ, encode, setWidth_bitMsbFirst_ofNat h]

/-- Every instruction of a line is a request, and a line whose operands are in range has well-formed ones. -/
theorem isDecodedRequest_of_mem_expandLine {l : AsmLine} (hl : l.wellFormed = true) {i : Instr}
    (hi : i ∈ expandLine l) : IsDecodedRequest i := by
  cases l
  case frEnc c =>
    obtain rfl := List.mem_singleton.mp hi
    cases c <;> exact ⟨rfl, rfl⟩
  case frDec c r =>
    obtain rfl := List.mem_singleton.mp hi
    obtain ⟨hlen, -⟩ : r.length = 3 * (rom c).replyWords ∧ _ := by simpa [AsmLine.wellFormed] using hl
    cases c <;> exact ⟨by simp [decInstr, Instr.wellFormed, hlen, rom], rfl⟩
  case crcCalc bs =>
    obtain rfl | ⟨b, -, rfl⟩ : i = .crcInit ∨ ∃ b ∈ bs, Instr.crcByte (BitVec.ofNat 8 b) = i := by
      simpa [expandLine] using hi
    all_goals exact ⟨rfl, rfl⟩
  case crcWord w =>
    obtain rfl | rfl : i = .crcByte (Machine.hi (BitVec.ofNat 16 w)) ∨ i = .crcByte (lo (BitVec.ofNat 16 w)) := by
      simpa [expandLine] using hi
    all_goals exact ⟨rfl, rfl⟩
  case crcBits8 b =>
    obtain ⟨k, -, rfl⟩ := List.mem_map.mp hi
    exact ⟨rfl, rfl⟩
  all_goals
    obtain rfl := List.mem_singleton.mp hi
    exact ⟨rfl, rfl⟩

/-- Settles O9: each row is the words of its expansion, which decode to it since it is well-formed. -/
theorem assembledLinesDecodeToTheirExpansion : Obligations.AssembledLinesDecodeToTheirExpansion := by
  have inRange {n x : Nat} (h : x < 2 ^ n) := setWidth_ofNat_of_lt h
  refine ⟨rfl, rfl, fun b => ?_, fun d => ?_, fun w => ?_, fun t0 t1 t2 => ?_, ?_, fun co2 tvoc => ?_, fun w => ?_,
    assemble_crcCalc, fun w => ?_, assemble_crcBits8, fun l fs h => ?_⟩
  · exact assemble_eq_ite (by simp [AsmLine.wellFormed]) fun h => by simp [expandLine, encode, inRange (n := 8) h]
  · exact assemble_eq_ite (by simp [AsmLine.wellFormed]) fun h => by simp [expandLine, encode, inRange (n := 1) h]
  · exact assemble_eq_ite (by simp [AsmLine.wellFormed]) fun h => by simp [expandLine, encode, inRange (n := 16) h]
  · exact assemble_eq_ite (by simp [AsmLine.wellFormed, and_assoc]) fun _ => by
      simp [expandLine, encode, packLeft_three_bytes]
  · intro row hrow
    fin_cases hrow
    all_goals exact ⟨assemble_frEnc _, assemble_frDec _⟩
  · exact assemble_eq_ite (by simp [AsmLine.wellFormed]) fun _ => by
      simp [expandLine, encode, selIndex, setWidth_append_eq_zero_append]
  · exact assemble_eq_ite (by simp [AsmLine.wellFormed]) fun h => by simp [expandLine, encode, inRange (n := 16) h]
  · exact assemble_eq_ite (by simp [AsmLine.wellFormed]) fun h => by
      simp [expandLine, encode, setWidth_hi_ofNat h, setWidth_lo_ofNat]
  · obtain ⟨hl, rfl⟩ := assemble_eq_some_iff.mp h
    refine ⟨?_, fun i hi => (isDecodedRequest_of_mem_expandLine hl hi).2⟩
    rw [List.map_map]
    exact List.map_congr_left fun i hi => decodeOfEncode i (isDecodedRequest_of_mem_expandLine hl hi).1

end Sys2Proof.Machine
end

section
/-! PROOFS. What single requests answer: CRC.BYTE and CRC.BIT (40_crc R69, R70), triples and replies (41_framer R80,
R84, R89) and the command frames of the ROM (41_framer R81). -/

namespace Sys2Proof.Machine

/-! ### CRC.BYTE and CRC.BIT (40_crc R64, R69, R70) -/

/-- The fixed points of the zero byte, over the 256 values of the register. -/
theorem crc8Step_zero_eq_self_iff : ∀ c : Byte, crc8Step c 0x00#8 = c ↔ c = 0x00#8 ∨ c = 0xEF#8 := by
  decide

/-- Settles O15: the fixed points, and a byte step on the register's own value gives 0. -/
theorem zeroByteHasTwoFixedPoints : Obligations.ZeroByteHasTwoFixedPoints :=
  ⟨crc8Step_zero_eq_self_iff, fun c => (crc8Step_eq_zero_iff c c).mpr rfl⟩

/-- Settles O18: CRC.BYTE writes the byte step of the register. -/
theorem crcByteFoldsOneByte : Obligations.CrcByteFoldsOneByte := exec_crcByte

/-- The feedback bit of CRC.BIT is the top bit XORed with the operand (40_crc R64). -/
theorem crc8Bit_eq_ite (c : Byte) (d : BitVec 1) :
    crc8Bit c d = if (c.getLsbD 7 ^^ d.getLsbD 0) = true then (c <<< 1) ^^^ 0x31#8 else c <<< 1 := by
  have feedback : c.extractLsb' 7 1 ^^^ d = 1#1 ↔ (c.getLsbD 7 ^^ d.getLsbD 0) = true := by
    have isOne : ∀ x : BitVec 1, x = 1#1 ↔ x.getLsbD 0 = true := by decide
    rw [isOne, BitVec.getLsbD_xor, BitVec.getLsbD_extractLsb']
    rfl
  simp only [crc8Bit, feedback, crcPoly]

/-- Settles O19: CRC.BIT writes the bit step of the register. -/
theorem crcBitFoldsOneBit : Obligations.CrcBitFoldsOneBit := by
  intro d s v hv
  rw [exec_crcBit, crc8Bit_eq_ite, ← hv]
  rfl

/-! ### Triples (41_framer R78, R80) -/

theorem answer_two_bytes (a b : Byte) (s : State) :
    answer [a, b] s = .next { s with resp := some ⟨.ok, s.crc, 2#4, a ++ b ++ 0#56, 0#2, 0#8, 0#7⟩ } := by
  rw [answer_eq, bytesResponse, packLeft_two_bytes]
  rfl

/-- Settles O24: FR.DECW answers the two bytes or raises, by the checksum of the triple. -/
theorem tripleIsDecodedOrRefusedWhole : Obligations.TripleIsDecodedOrRefusedWhole := by
  intro t0 t1 t2 s
  refine ⟨fun h => ?_, fun h => ?_⟩
  · have ok : exec (.frDecw t0 t1 t2) s = answer [t0, t1] s := if_pos ((decWord_ok_iff t0 t1 t2).mpr h)
    rw [ok, answer_two_bytes]
  · exact if_neg (mt (decWord_ok_iff t0 t1 t2).mp h)

/-! ### Reply frames (41_framer R84, R89) -/

/-- A triple of a reply frame, as it stands on the wire. -/
abbrev Triple := Byte × Byte × Byte

/-- The three bytes on the wire (30_encoding R53). -/
def Triple.bytes (t : Triple) : List Byte := [t.1, t.2.1, t.2.2]

/-- The checksum byte is that of the two data bytes (41_framer R78). -/
def Triple.valid (t : Triple) : Bool := crc8 [t.1, t.2.1] == t.2.2

/-- The word carried (20_memory R37). -/
def Triple.word (t : Triple) : Word16 := t.1 ++ t.2.1

/-- A frame is decoded triple by triple, each on its own two bytes, and what follows it is ignored (41_framer R84). -/
theorem decFrame_flatMap_bytes (ts : List Triple) (after : List Byte) :
    decFrame ts.length (ts.flatMap Triple.bytes ++ after) =
      if ts.all Triple.valid then some (ts.map Triple.word) else none := by
  induction ts with
  | nil => rfl
  | cons t ts ih =>
    have first : (t :: ts).flatMap Triple.bytes ++ after
        = t.1 :: t.2.1 :: t.2.2 :: (ts.flatMap Triple.bytes ++ after) := rfl
    rw [first, List.length_cons, decFrame, ih, List.all_cons]
    rcases decWord_cases t.1 t.2.1 t.2.2 with ⟨h, e⟩ | ⟨h, e⟩
    · have valid : t.valid = true := beq_iff_eq.mpr h
      rw [e, valid, Bool.true_and]
      cases ts.all Triple.valid <;> rfl
    · have invalid : t.valid = false := beq_eq_false_iff_ne.mpr h
      rw [e, invalid]
      rfl

/-- Settles O30: whether all triples pass, and which words they carry, does not depend on their order. -/
theorem replyFrameIsCheckedTripleByTriple : Obligations.ReplyFrameIsCheckedTripleByTriple := by
  refine ⟨decFrame_flatMap_bytes, fun ts us ws hperm h => ?_⟩
  have decoded (ts : List Triple) : decFrame ts.length (ts.flatMap Triple.bytes) =
      if ts.all Triple.valid then some (ts.map Triple.word) else none := by
    simpa using decFrame_flatMap_bytes ts []
  obtain ⟨hvalid, rfl⟩ : ts.all Triple.valid = true ∧ ts.map Triple.word = ws := by
    simpa using (decoded ts).symm.trans h
  refine ⟨us.map Triple.word, hperm.map _, (decoded us).trans (if_pos ?_)⟩
  rw [← hperm.all_eq]
  exact hvalid

/-- The two bytes that FR.DEC hands on (41_framer R84). -/
def Triple.dataBytes (t : Triple) : List Byte := [t.1, t.2.1]

theorem Triple.wordBytes_word (t : Triple) : wordBytes t.word = t.dataBytes := by
  rw [wordBytes, hi, lo, Triple.word, BitVec.extractLsb'_append_eq_left, BitVec.extractLsb'_append_eq_right]
  rfl

/-- FR.DEC of as many triples as the command has reply words: the data bytes, or CHECKSUM_MISMATCH (41_framer R84). -/
theorem answerReply_triples {c : Selector} {ts : List Triple} (hlen : ts.length = (rom c).replyWords) (s : State) :
    answerReply c (ts.flatMap Triple.bytes) s =
      if ts.all Triple.valid then answer (ts.flatMap Triple.dataBytes) s else raise .checksumMismatch s := by
  have decoded := decFrame_flatMap_bytes ts []
  rw [List.append_nil, hlen] at decoded
  have dataBytes : (ts.map Triple.word).flatMap wordBytes = ts.flatMap Triple.dataBytes := by
    simp only [List.flatMap_map, Triple.wordBytes_word]
  rw [answerReply, decoded, ← dataBytes]
  cases ts.all Triple.valid <;> rfl

theorem answer_four_bytes (a b c d : Byte) (s : State) :
    answer [a, b, c, d] s =
      .next { s with resp := some ⟨.ok, s.crc, 4#4, a ++ b ++ c ++ d ++ 0#40, 0#2, 0#8, 0#7⟩ } := by
  rw [answer_eq, bytesResponse, packLeft_four_bytes]
  rfl

theorem answer_six_bytes (a b c d e f : Byte) (s : State) :
    answer [a, b, c, d, e, f] s =
      .next { s with resp := some ⟨.ok, s.crc, 6#4, a ++ b ++ c ++ d ++ e ++ f ++ 0#24, 0#2, 0#8, 0#7⟩ } := by
  rw [answer_eq, bytesResponse, packLeft_six_bytes]
  rfl

/-- Settles O31: two triples give four data bytes. -/
theorem twoWordRepliesAreAllOrNothing : Obligations.TwoWordRepliesAreAllOrNothing := by
  intro r0 r1 r2 r3 r4 r5 s
  have valid : [(r0, r1, r2), (r3, r4, r5)].all Triple.valid = true ↔ crc8 [r0, r1] = r2 ∧ crc8 [r3, r4] = r5 := by
    simp [Triple.valid]
  have reply {c : Selector} (hc : (rom c).replyWords = 2) :=
    answerReply_triples (c := c) (ts := [(r0, r1, r2), (r3, r4, r5)]) hc.symm s
  have four := answer_four_bytes r0 r1 r3 r4 s
  refine ⟨fun h => ?_, fun h => ?_⟩
  · have ok {c : Selector} (hc : (rom c).replyWords = 2) := ((reply hc).trans (if_pos (valid.mpr h))).trans four
    exact ⟨ok (c := .measureIaq) rfl, ok (c := .getIaqBaseline) rfl⟩
  · have bad {c : Selector} (hc : (rom c).replyWords = 2) := (reply hc).trans (if_neg (mt valid.mp h))
    exact ⟨bad (c := .measureIaq) rfl, bad (c := .getIaqBaseline) rfl⟩

/-- Settles O32: three triples give six data bytes, one gives two. -/
theorem serialAndFeaturesetRepliesAreAllOrNothing : Obligations.SerialAndFeaturesetRepliesAreAllOrNothing := by
  constructor
  · intro r0 r1 r2 r3 r4 r5 r6 r7 r8 s
    have valid : [(r0, r1, r2), (r3, r4, r5), (r6, r7, r8)].all Triple.valid = true ↔
        crc8 [r0, r1] = r2 ∧ crc8 [r3, r4] = r5 ∧ crc8 [r6, r7] = r8 := by
      simp [Triple.valid]
    have reply := answerReply_triples (c := .getSerialId) (ts := [(r0, r1, r2), (r3, r4, r5), (r6, r7, r8)]) rfl s
    exact ⟨fun h => (reply.trans (if_pos (valid.mpr h))).trans (answer_six_bytes r0 r1 r3 r4 r6 r7 s),
      fun h => reply.trans (if_neg (mt valid.mp h))⟩
  · intro r0 r1 r2 s
    have valid : [(r0, r1, r2)].all Triple.valid = true ↔ crc8 [r0, r1] = r2 := by
      simp [Triple.valid]
    have reply := answerReply_triples (c := .getFeatureset) (ts := [(r0, r1, r2)]) rfl s
    exact ⟨fun h => (reply.trans (if_pos (valid.mpr h))).trans (answer_two_bytes r0 r1 s),
      fun h => reply.trans (if_neg (mt valid.mp h))⟩

/-! ### Command frames (41_framer R81) -/

/-- FR.ENC of a command without payload words: its two opcode bytes and its row of the ROM. -/
theorem answerCommand_nil (c : Selector) (s : State) :
    answerCommand c [] s = .next { s with
      resp := some ⟨.ok, s.crc, 2#4, (rom c).opcode ++ 0#56, BitVec.ofNat 2 (rom c).replyWords,
        BitVec.ofNat 8 (rom c).delayMs, s.build.devAddr⟩ } := by
  have frame : commandFrame (rom c).opcode [] = wordBytes (rom c).opcode := rfl
  rw [answerCommand_eq, frame, bytesResponse, packLeft_wordBytes]
  rfl

/-- Settles O27: five rows of the ROM. -/
theorem commandFramesWithoutPayload : Obligations.CommandFramesWithoutPayload :=
  fun s => ⟨answerCommand_nil .iaqInit s, answerCommand_nil .measureIaq s, answerCommand_nil .getIaqBaseline s,
    answerCommand_nil .getSerialId s, answerCommand_nil .getFeatureset s⟩

end Sys2Proof.Machine
end

section
/-! PROOFS. What a request answers (30_encoding R55), one step at the request port and at reset (10_state R30, R31;
70_reset_and_hazards R111, R117), and everything one step can do, said once. -/

namespace Sys2Proof.Machine

/-! ### Legal responses (30_encoding R55, 60_exceptions R96, R97) -/

theorem packLeft_shiftLeft_length (bs : List Byte) : packLeft bs <<< (8 * bs.length) = 0#72 := by
  apply BitVec.eq_of_getLsbD_eq
  intro i hi
  rw [BitVec.getLsbD_shiftLeft]
  by_cases h : i < 8 * bs.length
  · simp [h]
  · rw [getLsbD_packLeft_below (by omega)]
    simp

/-- An OK response that carries at most nine bytes is legal, whatever its FR.ENC fields. -/
theorem legalResponse_of_bytes {r : Response} {bs : List Byte} (hst : r.status = .ok)
    (hlen : r.len = BitVec.ofNat 4 bs.length) (hpayload : r.payload = packLeft bs) (hnine : bs.length ≤ 9) :
    legalResponse r = true := by
  have toNat_len : r.len.toNat = bs.length := by
    rw [hlen, BitVec.toNat_ofNat, Nat.mod_eq_of_lt (by omega)]
  have padded : payloadPadded r = true := by
    rw [payloadPadded, hpayload, toNat_len, packLeft_shiftLeft_length]
    rfl
  simp [legalResponse, hst, toNat_len, hnine, padded]

theorem length_flatMap_wordBytes (ws : List Word16) : (ws.flatMap wordBytes).length = 2 * ws.length := by
  simp [List.length_flatMap, Nat.mul_comm]

theorem length_flatMap_encWord (ws : List Word16) : (ws.flatMap encWord).length = 3 * ws.length := by
  simp [List.length_flatMap, Nat.mul_comm]

theorem length_commandFrame (k : Word16) (ps : List Word16) : (commandFrame k ps).length = 2 + 3 * ps.length := by
  rw [commandFrame, List.length_append, wordBytes_length, length_flatMap_encWord]

theorem replyWords_le_three (c : Selector) : (rom c).replyWords ≤ 3 := by cases c <;> decide

/-! ### What a request does (10_state R21, R31) -/

/-- A result that answers a request: `crc` and the response port are all that changes, and the response is legal and
reports the register. -/
def Answers (s : State) (o : Result) : Prop :=
  ∃ (c : Byte) (r : Response), o = .next { s with crc := c, resp := some r } ∧ r.crc = c ∧ legalResponse r = true

section
variable (s : State)

theorem answers_acknowledge : Answers s (acknowledge s) :=
  ⟨s.crc, _, acknowledge_eq s, rfl, legalResponse_bare .ok s.crc (by decide)⟩

theorem answers_writeCrc (v : Byte) : Answers s (writeCrc v s) :=
  ⟨v, _, writeCrc_eq v s, rfl, legalResponse_bare .ok v (by decide)⟩

theorem answers_raise {st : Status} (h : st ≠ .transportError) : Answers s (raise st s) :=
  ⟨s.crc, _, raise_eq st s, rfl, legalResponse_bare st s.crc h⟩

theorem answers_answer {bs : List Byte} (h : bs.length ≤ 9) : Answers s (answer bs s) :=
  ⟨s.crc, _, answer_eq bs s, rfl, legalResponse_of_bytes (bs := bs) rfl rfl rfl h⟩

theorem answers_answerCommand (c : Selector) {ps : List Word16} (h : ps.length ≤ 2) :
    Answers s (answerCommand c ps s) := by
  have hnine : (commandFrame (rom c).opcode ps).length ≤ 9 := by
    rw [length_commandFrame]
    omega
  exact ⟨s.crc, _, answerCommand_eq c ps s, rfl, legalResponse_of_bytes rfl rfl rfl hnine⟩

theorem answers_answerReply (c : Selector) (bs : List Byte) : Answers s (answerReply c bs s) := by
  rcases answerReply_cases c bs s with ⟨ws, hws, words⟩ | ⟨-, raised⟩
  · have hthree := replyWords_le_three c
    have hnine : (ws.flatMap wordBytes).length ≤ 9 := by
      rw [length_flatMap_wordBytes, decFrame_length hws]
      omega
    exact words ▸ answers_answer s hnine
  · exact raised ▸ answers_raise s (by decide)

theorem answers_exec {i : Instr} (hreq : i.isRequest = true) : Answers s (exec i s) := by
  rcases exec_request_cases hreq s with e | ⟨v, e⟩ | ⟨st, -, hst, e⟩ | ⟨bs, hbs, e⟩ | ⟨c, ps, hps, e⟩ | ⟨c, bs, e⟩
  · exact e ▸ answers_acknowledge s
  · exact e ▸ answers_writeCrc s v
  · exact e ▸ answers_raise s hst
  · exact e ▸ answers_answer s (by omega)
  · exact e ▸ answers_answerCommand s c hps
  · exact e ▸ answers_answerReply s c bs

/-- A request answers with its effect on the register. -/
theorem exec_request {i : Instr} (hreq : i.isRequest = true) :
    ∃ r : Response, exec i s = .next { s with crc := crcAfter s.crc i, resp := some r } ∧
      r.crc = crcAfter s.crc i ∧ legalResponse r = true := by
  obtain ⟨c, r, hexec, hcrc, hlegal⟩ := answers_exec s hreq
  obtain ⟨t, ht, htcrc, -, -⟩ := exec_crcAfter i s
  cases hexec.symm.trans ht
  obtain rfl : c = crcAfter s.crc i := htcrc
  exact ⟨r, hexec, hcrc, hlegal⟩

end

/-! ### One step of the request port (10_state R30, R31; 30_encoding R52) -/

/-- Settles O39: the step of a request, with acceptance written out. -/
theorem stepRunsTheDecodedRequest : Obligations.StepRunsTheDecodedRequest :=
  fun _ _ _ hin hp => step_request hin hp

/-- Settles O40: the two outcomes of decoding a wire word. -/
theorem stepRunsTheDecodedCommand : Obligations.StepRunsTheDecodedCommand := by
  intro s k later hin hp
  rw [step_command hin hp]
  rcases runFetched_command k (accept later s) with ⟨j, hj, hexec⟩ | ⟨hnone, hbad⟩
  · refine ⟨fun i hi => ?_, fun hk => absurd (hk.symm.trans hj) (by simp)⟩
    cases hi.symm.trans hj
    exact hexec
  · exact ⟨fun i hi => absurd (hnone.symm.trans hi) (by simp), fun _ => hbad.trans (badInput_eq _)⟩

/-- Settles O41: the decoded instruction is a request, which answers with a legal response. -/
theorem everyRequestIsAnswered : Obligations.EveryRequestIsAnswered := by
  intro s w later hin hp
  obtain ⟨r, hexec, hcrc, hlegal⟩ := exec_request (accept later s) (isDecodedRequest_decodeRequest w).2
  refine ⟨_, r, (step_request hin hp).trans hexec, rfl, rfl, hcrc, fun hst => ?_⟩
  simp [legalResponse, hst] at hlegal

theorem clockEdge_accepting {p : Pins} {s : State} (hrst : p.rst = false) (hvalid : p.reqValid = true)
    (hp : s.inProgress = false) (rest : List Event) : clockEdge p rest s = acceptAtEdge p.req (accept rest s) := by
  simp [clockEdge, hrst, hvalid, hp]

/-- Settles O46: acceptance at an edge starts a byte only in a SERIAL build and for CRC.BYTE. -/
theorem otherRequestsTakeOneCycle : Obligations.OtherRequestsTakeOneCycle := by
  intro s w later hp hone hin
  rw [step_clock hin, clockEdge_accepting rfl rfl hp]
  rcases acceptAtEdge_cases w (accept later s) with ⟨b, hserial, hbyte, -⟩ | ⟨-, hexec⟩
  · rcases hone with hparallel | hother
    · exact absurd (hparallel.symm.trans hserial) (by decide)
    · exact absurd hbyte (hother b)
  · exact hexec

/-! ### Reset (70_reset_and_hazards R111) -/

theorem clockEdge_of_rst {p : Pins} (hrst : p.rst = true) (rest : List Event) (s : State) :
    clockEdge p rest s = .next (takeReset { s with inbox := rest }) := by
  simp [clockEdge, hrst]

theorem clockEdge_busy {p : Pins} {s : State} (hrst : p.rst = false) (hp : s.inProgress = true) (rest : List Event) :
    clockEdge p rest s = .next (advanceByte { s with inbox := rest }) := by
  simp [clockEdge, hrst, hp]

theorem clockEdge_idle {p : Pins} {s : State} (hrst : p.rst = false) (hvalid : p.reqValid = false)
    (hp : s.inProgress = false) (rest : List Event) : clockEdge p rest s = .next (idle { s with inbox := rest }) := by
  simp [clockEdge, hrst, hvalid, hp]

/-- Settles O43: both forms of reset are `takeReset`, and the edge after it is idle. -/
theorem resetLoadsInitialValue : Obligations.ResetLoadsInitialValue := by
  intro s e later hin he
  have hstep : step s = .next (takeReset { s with inbox := later }) := by
    rcases he with rfl | ⟨v, w, rfl⟩
    · exact step_reset hin
    · exact (step_clock hin).trans (clockEdge_of_rst rfl later s)
  refine ⟨_, hstep, rfl, rfl, reqReady_of_rst rfl, rfl, rfl, rfl, rfl, rfl, fun w rest hlater => ?_⟩
  exact ⟨_, (step_clock hlater).trans (clockEdge_idle rfl rfl rfl rest), (reqReady_iff _).mpr ⟨rfl, rfl⟩, rfl⟩

/-! ### Everything one step can do -/

/-- The states a step from `s` can end in, with the event served and what it requires. -/
inductive StepTo (s : State) : State → Prop
  /-- A reset, as an event or at an edge (70_reset_and_hazards R111). -/
  | reset {rest : List Event}
      (hin : s.inbox = .reset :: rest ∨ ∃ p : Pins, p.rst = true ∧ s.inbox = .clock p :: rest) :
      StepTo s (takeReset { s with inbox := rest })
  /-- One more cycle of the byte in progress, at an edge or with the event held (10_state R30). -/
  | advance {rest : List Event} (hp : s.inProgress = true)
      (hin : s.inbox = rest ∨ ∃ p : Pins, p.rst = false ∧ s.inbox = .clock p :: rest) :
      StepTo s (advanceByte { s with inbox := rest })
  /-- A request, as an event or at an edge (10_state R30, R31). -/
  | request {w : Request} {rest : List Event} {r : Response} (hp : s.inProgress = false)
      (hin : s.inbox = .request w :: rest ∨ s.inbox = .clock ⟨false, true, w⟩ :: rest)
      (hcrc : r.crc = crcAfter s.crc (decodeRequest w)) (hlegal : legalResponse r = true) :
      StepTo s { accept rest s with crc := crcAfter s.crc (decodeRequest w), resp := some r }
  /-- The edge that accepts a CRC.BYTE in a SERIAL build (10_state R27). -/
  | start {w : Request} {b : Byte} {rest : List Event} (hp : s.inProgress = false)
      (hin : s.inbox = .clock ⟨false, true, w⟩ :: rest) (hserial : s.build.crcImpl = .serial)
      (hbyte : decodeRequest w = .crcByte b) : StepTo s (startByte b (accept rest s))
  /-- Nothing to serve: no event, or an edge without a valid request. -/
  | idle {rest : List Event} (hp : s.inProgress = false)
      (hin : (s.inbox = [] ∧ rest = []) ∨
        ∃ p : Pins, p.rst = false ∧ p.reqValid = false ∧ s.inbox = .clock p :: rest) :
      StepTo s (idle { s with inbox := rest })
  /-- A wire command (70_reset_and_hazards R119). -/
  | opened {k : Word16} {c : Selector} {rest : List Event} (hp : s.inProgress = false)
      (hin : s.inbox = .command k :: rest) (hk : (decodeCommand k).isSome = true) :
      StepTo s { accept rest s with slot := some c, untrusted := s.untrusted || s.slot.isSome }
  /-- A wire word that is no command (91 N10). -/
  | badInput {k : Word16} {rest : List Event} (hp : s.inProgress = false)
      (hin : s.inbox = .command k :: rest) (hk : decodeCommand k = none) :
      StepTo s { accept rest s with untrusted := true }
  /-- The end of a transaction with none under way. -/
  | nothingToEnd {ms : Nat} {rest : List Event} (hp : s.inProgress = false)
      (hin : s.inbox = .finish ms :: rest) (hslot : s.slot = none) : StepTo s (accept rest s)
  /-- The end of a transaction after its delay (70_reset_and_hazards R120). -/
  | completed {ms : Nat} {c : Selector} {rest : List Event} (hp : s.inProgress = false)
      (hin : s.inbox = .finish ms :: rest) (hslot : s.slot = some c) (hdelay : (rom c).delayMs ≤ ms) :
      StepTo s { accept rest s with slot := none }
  /-- The end of a transaction before its delay (70_reset_and_hazards R123). -/
  | endedEarly {ms : Nat} {c : Selector} {rest : List Event} (hp : s.inProgress = false)
      (hin : s.inbox = .finish ms :: rest) (hslot : s.slot = some c) (hdelay : ¬(rom c).delayMs ≤ ms) :
      StepTo s { accept rest s with untrusted := true }
  /-- A transaction given up (70_reset_and_hazards R123). -/
  | abandoned {rest : List Event} (hp : s.inProgress = false) (hin : s.inbox = .abandon :: rest) :
      StepTo s { accept rest s with untrusted := s.untrusted || s.slot.isSome }
  /-- A new handle (70_reset_and_hazards R122, R123). -/
  | constructed {rest : List Event} (hp : s.inProgress = false) (hin : s.inbox = .constructed :: rest) :
      StepTo s { accept rest s with untrusted := s.untrusted && s.slot.isSome }

section
variable {s : State} {rest : List Event}

theorem stepTo_request {w : Request} (hp : s.inProgress = false)
    (hin : s.inbox = .request w :: rest ∨ s.inbox = .clock ⟨false, true, w⟩ :: rest)
    (hstep : step s = exec (decodeRequest w) (accept rest s)) : ∃ t, step s = .next t ∧ StepTo s t := by
  obtain ⟨r, hexec, hcrc, hlegal⟩ := exec_request (accept rest s) (isDecodedRequest_decodeRequest w).2
  exact ⟨_, hstep.trans hexec, .request hp hin hcrc hlegal⟩

theorem stepTo_clock {p : Pins} (hin : s.inbox = .clock p :: rest) : ∃ t, step s = .next t ∧ StepTo s t := by
  have hstep := step_clock hin
  rcases clockEdge_cases p rest s with ⟨hrst, e⟩ | ⟨hrst, hp, e⟩ | ⟨hrst, hp, hvalid, e⟩ | ⟨hrst, hp, hvalid, e⟩
  · exact ⟨_, hstep.trans e, .reset (.inr ⟨p, hrst, hin⟩)⟩
  · exact ⟨_, hstep.trans e, .advance hp (.inr ⟨p, hrst, hin⟩)⟩
  · have hin : s.inbox = .clock ⟨false, true, p.req⟩ :: rest := by rw [hin, ← hrst, ← hvalid]
    rcases acceptAtEdge_cases p.req (accept rest s) with ⟨b, hserial, hbyte, e'⟩ | ⟨-, e'⟩
    · exact ⟨_, (hstep.trans e).trans e', .start hp hin hserial hbyte⟩
    · exact stepTo_request hp (.inr hin) ((hstep.trans e).trans e')
  · exact ⟨_, hstep.trans e, .idle hp (.inr ⟨p, hrst, hvalid, hin⟩)⟩

theorem stepTo_command {k : Word16} (hin : s.inbox = .command k :: rest) (hp : s.inProgress = false) :
    ∃ t, step s = .next t ∧ StepTo s t := by
  have hstep := step_command hin hp
  rcases runFetched_command k (accept rest s) with ⟨i, hi, hexec⟩ | ⟨hnone, hbad⟩
  · have hreq : i.isRequest = false := (decodedInstructionsAreWellFormed.2 k i hi).2
    obtain ⟨c, hc⟩ := exec_command hreq (accept rest s)
    exact ⟨_, ((hstep.trans hexec).trans hc).trans (openTransaction_eq c _), .opened hp hin (by rw [hi]; rfl)⟩
  · exact ⟨_, (hstep.trans hbad).trans (badInput_eq _), .badInput hp hin hnone⟩

theorem stepTo_finish {ms : Nat} (hin : s.inbox = .finish ms :: rest) (hp : s.inProgress = false) :
    ∃ t, step s = .next t ∧ StepTo s t := by
  have hstep := step_finish hin hp
  rcases endTransaction_cases ms (accept rest s) with ⟨hslot, e⟩ | ⟨c, hslot, hdelay, e⟩ | ⟨c, hslot, hdelay, e⟩
  · exact ⟨_, hstep.trans e, .nothingToEnd hp hin hslot⟩
  · exact ⟨_, hstep.trans e, .completed hp hin hslot hdelay⟩
  · exact ⟨_, hstep.trans e, .endedEarly hp hin hslot hdelay⟩

theorem stepTo_held (hp : s.inProgress = true)
    (hin : ∀ e rest, s.inbox = e :: rest → e ≠ .reset ∧ ∀ p, e ≠ .clock p) : ∃ t, step s = .next t ∧ StepTo s t :=
  ⟨_, step_held hp hin, .advance hp (.inl rfl)⟩

end

/-- Every step goes on, in one of the ways above. -/
theorem stepTo_step (s : State) : ∃ t, step s = .next t ∧ StepTo s t := by
  by_cases hheld : s.inProgress = true ∧ ∀ e rest, s.inbox = e :: rest → e ≠ .reset ∧ ∀ p, e ≠ .clock p
  · exact stepTo_held hheld.1 hheld.2
  · cases hin : s.inbox with
    | nil =>
      have hp : s.inProgress = false := by simpa [hin] using hheld
      exact ⟨_, step_idle hin hp, .idle hp (.inl ⟨hin, hin⟩)⟩
    | cons e rest =>
      have hp (hreset : e ≠ .reset) (hclock : ∀ p, e ≠ .clock p) : s.inProgress = false := by
        simpa [hin, hreset, hclock] using hheld
      cases e with
      | reset => exact ⟨_, step_reset hin, .reset (.inl hin)⟩
      | clock p => exact stepTo_clock hin
      | request w =>
        have hp := hp (by simp) (by simp)
        exact stepTo_request hp (.inl hin) (step_request hin hp)
      | command k => exact stepTo_command hin (hp (by simp) (by simp))
      | finish ms => exact stepTo_finish hin (hp (by simp) (by simp))
      | abandon =>
        have hp := hp (by simp) (by simp)
        exact ⟨_, (step_abandon hin hp).trans (abandonTransaction_eq _), .abandoned hp hin⟩
      | constructed =>
        have hp := hp (by simp) (by simp)
        exact ⟨_, (step_constructed hin hp).trans (renewHandle_eq _), .constructed hp hin⟩

theorem stepTo_of_step {s t : State} (h : step s = .next t) : StepTo s t := by
  obtain ⟨u, hu, hto⟩ := stepTo_step s
  cases hu.symm.trans h
  exact hto

end Sys2Proof.Machine
end

section
/-! PROOFS. What follows from the list of everything a step can do: who writes the register (10_state R21), the frame of
requests and the build (R25), the bus (70_reset_and_hazards R119 to R123) and the invariant. -/

namespace Sys2Proof.Machine

/-! ### The register and the build (10_state R21, R25) -/

/-- An instruction that changes the register is one of the three that write it. -/
theorem crcAfter_cases (c : Byte) (i : Instr) :
    crcAfter c i = c ∨ (i = .crcInit ∧ crcAfter c i = crcInit) ∨
    (∃ b, i = .crcByte b ∧ crcAfter c i = crc8Step c b) ∨ ∃ d, i = .crcBit d ∧ crcAfter c i = crc8Bit c d := by
  unfold crcAfter
  split
  · exact .inr (.inl ⟨rfl, rfl⟩)
  · exact .inr (.inr (.inl ⟨_, rfl, rfl⟩))
  · exact .inr (.inr (.inr ⟨_, rfl, rfl⟩))
  · exact .inl rfl

/-- A cycle of a byte in progress writes the register only when it is the last one (20_memory R43). -/
theorem advanceByte_crc (s : State) :
    (advanceByte s).crc = s.crc ∨
    (s.serialCount = 7#3 ∧ (advanceByte s).crc = crc8Bit s.serialReg (bitMsbFirst s.serialByte 7)) := by
  rcases advanceByte_cases s with ⟨hlast, e⟩ | ⟨-, e⟩
  · refine .inr ⟨hlast, ?_⟩
    rw [e, hlast]
    rfl
  · exact .inl (by rw [e])

/-- Settles O49: of all that a step can do, only a reset, a request and the last cycle of a byte touch the register. -/
theorem onlyResetAndCrcOpsWriteTheRegister : Obligations.OnlyResetAndCrcOpsWriteTheRegister := by
  constructor
  · intro i s t hw h
    obtain ⟨u, hu, hcrc, -, -⟩ := exec_of_not_writesCrc hw s
    cases hu.symm.trans h
    exact hcrc
  · intro s t h hne
    cases stepTo_of_step h
    case reset rest hin =>
      rcases hin with hin | ⟨p, hrst, hin⟩
      · exact .inr (.inl ⟨rest, hin, rfl⟩)
      · exact .inr (.inr (.inl ⟨p, rest, hin, hrst, rfl⟩))
    case advance rest hp hin =>
      rcases advanceByte_crc { s with inbox := rest } with hsame | ⟨hlast, hcrc⟩
      · exact absurd hsame hne
      · exact .inl ⟨hp, hlast, hcrc⟩
    case request w rest r hp hin hcrc hlegal =>
      rcases crcAfter_cases s.crc (decodeRequest w) with hsame | hwritten
      · exact absurd hsame hne
      · exact .inr (.inr (.inr ⟨w, rest, hp, hin, hwritten⟩))
    all_goals exact absurd rfl hne

/-- Settles O50: a request answers with `crc` and the response changed, and no step touches the build. -/
theorem requestsLeaveTheRestAlone : Obligations.RequestsLeaveTheRestAlone := by
  refine ⟨fun i s hreq => ?_, fun s t h => ?_⟩
  · obtain ⟨c, r, hexec, hcrc, -⟩ := answers_exec s hreq
    exact ⟨c, r, hexec, hcrc⟩
  · cases stepTo_of_step h
    case advance => exact advanceByte_build _
    all_goals rfl

/-! ### The bus (70_reset_and_hazards R119, R120, R123) -/

/-- Settles O51: each wire opcode opens the transaction of its own command. -/
theorem sensorCommandsTakeTheOneSlot : Obligations.SensorCommandsTakeTheOneSlot :=
  fun s => ⟨openTransaction_eq .iaqInit s, openTransaction_eq .measureIaq s, openTransaction_eq .getIaqBaseline s,
    openTransaction_eq .setIaqBaseline s, openTransaction_eq .getSerialId s, openTransaction_eq .getFeatureset s⟩

/-- The settle delays (70_reset_and_hazards R120). -/
theorem rom_delayMs (c : Selector) : (rom c).delayMs = if c = .measureIaq then 50 else 10 := by
  cases c <;> rfl

theorem endTransaction_of_delay_le {c : Selector} {ms : Nat} {s : State} (hslot : s.slot = some c)
    (h : (rom c).delayMs ≤ ms) : endTransaction ms s = .next { s with slot := none } := by
  simp [endTransaction, hslot, h]

theorem endTransaction_of_lt_delay {c : Selector} {ms : Nat} {s : State} (hslot : s.slot = some c)
    (h : ms < (rom c).delayMs) : endTransaction ms s = .next { s with untrusted := true } := by
  simp [endTransaction, hslot, Nat.not_le.mpr h, abandonTransaction_eq]

/-- Settles O52: the end of a transaction compares the wait with the delay; of all that a step can do, only a wire
command and a completed end touch the slot. -/
theorem transactionsEndAfterTheirDelay : Obligations.TransactionsEndAfterTheirDelay := by
  constructor
  · intro s c ms later hp hslot hin d
    have hd : (rom c).delayMs = d := rom_delayMs c
    rw [step_finish hin hp, ← hd]
    exact ⟨endTransaction_of_delay_le (s := accept later s) hslot,
      endTransaction_of_lt_delay (s := accept later s) hslot⟩
  · intro s t h hne
    cases stepTo_of_step h
    case opened k c rest hp hin hk => exact ⟨hp, .inl ⟨k, rest, hin, hk⟩⟩
    case completed ms c rest hp hin hslot hdelay =>
      exact ⟨hp, .inr ⟨c, ms, rest, hin, hslot, rom_delayMs c ▸ hdelay, rfl⟩⟩
    case advance => exact absurd (advanceByte_slot _) hne
    all_goals exact absurd rfl hne

/-- What a step from `s` to `t` records of the bus: a broken obligation of the host makes the handle untrusted, a kept one
does not, and only a new handle with no transaction under way clears the record (log 11). -/
def RecordsBus (s t : State) : Prop :=
  (hostObeys s = false → t.untrusted = true) ∧
  (hostObeys s = true → t.untrusted = true → s.untrusted = true) ∧
  (t.untrusted = false → s.untrusted = true →
    s.inProgress = false ∧ s.slot = none ∧ ∃ later : List Event, s.inbox = .constructed :: later)

section
variable {s t : State}

theorem recordsBus_of_kept (hobeys : hostObeys s = true) (h : t.untrusted = s.untrusted) : RecordsBus s t := by
  simp +contextual [RecordsBus, hobeys, h]

theorem recordsBus_of_broken (hbroken : hostObeys s = false) (h : t.untrusted = true) : RecordsBus s t := by
  simp [RecordsBus, hbroken, h]

/-- An event that is broken exactly when a transaction is under way, and is recorded then. -/
theorem recordsBus_of_slot (hobeys : hostObeys s = s.slot.isNone)
    (h : t.untrusted = (s.untrusted || s.slot.isSome)) : RecordsBus s t := by
  cases hslot : s.slot with
  | none =>
    rw [hslot] at hobeys h
    exact recordsBus_of_kept hobeys (h.trans (Bool.or_false _))
  | some c =>
    rw [hslot] at hobeys h
    exact recordsBus_of_broken hobeys (h.trans (Bool.or_true _))

/-- An event held behind a byte in progress is not judged yet. -/
theorem hostObeys_of_inProgress (hp : s.inProgress = true) : hostObeys s = true := by
  unfold hostObeys
  split
  all_goals simp [hp]

/-- The judgement of each event, as it is served. -/
theorem recordsBus_of_stepTo (hto : StepTo s t) : RecordsBus s t := by
  cases hto
  case reset rest hin =>
    refine recordsBus_of_kept ?_ rfl
    rcases hin with hin | ⟨p, -, hin⟩ <;> simp [hostObeys, hin]
  case advance rest hp hin => exact recordsBus_of_kept (hostObeys_of_inProgress hp) (advanceByte_untrusted _)
  case request w rest r hp hin hcrc hlegal =>
    refine recordsBus_of_kept ?_ rfl
    rcases hin with hin | hin <;> simp [hostObeys, hin]
  case start w b rest hp hin hserial hbyte => exact recordsBus_of_kept (by simp [hostObeys, hin]) rfl
  case idle rest hp hin =>
    refine recordsBus_of_kept ?_ rfl
    rcases hin with ⟨hin, -⟩ | ⟨p, -, -, hin⟩ <;> simp [hostObeys, hin]
  case opened k c rest hp hin hk => exact recordsBus_of_slot (by simp [hostObeys, hin, hp, hk]) rfl
  case badInput k rest hp hin hk => exact recordsBus_of_broken (by simp [hostObeys, hin, hp, hk]) rfl
  case nothingToEnd ms rest hp hin hslot => exact recordsBus_of_kept (by simp [hostObeys, hin, hslot]) rfl
  case completed ms c rest hp hin hslot hdelay =>
    exact recordsBus_of_kept (by simp [hostObeys, hin, hslot, hdelay]) rfl
  case endedEarly ms c rest hp hin hslot hdelay =>
    exact recordsBus_of_broken (by simp [hostObeys, hin, hp, hslot, Nat.lt_of_not_le hdelay]) rfl
  case abandoned rest hp hin => exact recordsBus_of_slot (by simp [hostObeys, hin, hp]) rfl
  case constructed rest hp hin =>
    have hobeys : hostObeys s = true := by simp [hostObeys, hin]
    cases hslot : s.slot with
    | none => exact ⟨by simp [hobeys], by simp, fun _ _ => ⟨hp, hslot, rest, hin⟩⟩
    | some c => exact recordsBus_of_kept hobeys (by simp)

end

/-- Settles O53: every step is in the list, and is recorded as the list says. -/
theorem everyStepGoesOnAndRecordsBrokenBusRules : Obligations.EveryStepGoesOnAndRecordsBrokenBusRules := by
  intro s
  obtain ⟨t, hstep, hto⟩ := stepTo_step s
  exact ⟨t, hstep, recordsBus_of_stepTo hto⟩

/-! ### The invariant (10_state R27, R30 to R34; 70_reset_and_hazards R111) -/

section
variable {s t : State}

theorem portInv_of_resp_none (h : s.resp = none) : portInv s = true := by
  simp [portInv, h]

theorem portInv_of_legal {r : Response} (h : s.resp = some r) (hlegal : legalResponse r = true) (hcrc : r.crc = s.crc) :
    portInv s = true := by
  simp [portInv, h, hlegal, hcrc]

theorem resetInv_of_not_rst (h : s.rst = false) : resetInv s = true := by
  simp [resetInv, h]

theorem resetInv_of_rst (h : s.rst = true) :
    resetInv s = true ↔ s.crc = crcInit ∧ s.inProgress = false ∧ s.resp = none := by
  simp [resetInv, h, and_assoc]

/-- With no byte in progress, before or after, a step has to keep the hidden state clear and show a legal response. -/
theorem inv_of_no_byte (hs : s.inv = true) (hp : s.inProgress = false) (hcount : t.serialCount = s.serialCount)
    (hbyte : t.serialByte = s.serialByte) (hreg : t.serialReg = s.serialReg) (hrst : t.rst = false)
    (hport : portInv t = true) : t.inv = true := by
  obtain ⟨-, hserial, -⟩ := (inv_iff s).mp hs
  have ht : t.inProgress = false := by rw [inProgress_eq_false_iff, hcount, (inProgress_eq_false_iff s).mp hp]
  refine (inv_iff t).mpr ⟨hport, (serialInv_of_not_inProgress ht).mpr ?_, resetInv_of_not_rst hrst⟩
  rw [hbyte, hreg]
  exact (serialInv_of_not_inProgress hp).mp hserial

theorem inv_takeReset (s : State) : (takeReset s).inv = true :=
  (inv_iff _).mpr ⟨portInv_of_resp_none rfl, (serialInv_of_not_inProgress rfl).mpr ⟨rfl, rfl⟩,
    (resetInv_of_rst rfl).mpr ⟨rfl, rfl, rfl⟩⟩

/-- The accepting edge has fed the first bit. -/
theorem inv_startByte (b : Byte) (hserial : s.build.crcImpl = .serial) (hrst : s.rst = false) (hresp : s.resp = none) :
    (startByte b s).inv = true :=
  (inv_iff _).mpr ⟨portInv_of_resp_none hresp, (serialInv_of_inProgress rfl).mpr ⟨hserial, hrst, hresp, rfl⟩,
    resetInv_of_not_rst hrst⟩

/-- One more cycle feeds one more bit; the last one leaves nothing behind. -/
theorem inv_advanceByte (hs : s.inv = true) (hp : s.inProgress = true) : (advanceByte s).inv = true := by
  obtain ⟨-, hserial, -⟩ := (inv_iff s).mp hs
  obtain ⟨hbuild, -, -, hreg⟩ := (serialInv_of_inProgress hp).mp hserial
  rcases advanceByte_cases s with ⟨-, e⟩ | ⟨hlast, e⟩ <;> rw [e]
  · exact (inv_iff _).mpr ⟨portInv_of_legal rfl (legalResponse_bare .ok _ (by decide)) rfl,
      (serialInv_of_not_inProgress rfl).mpr ⟨rfl, rfl⟩, resetInv_of_not_rst rfl⟩
  · have count : (s.serialCount + 1#3).toNat = s.serialCount.toNat + 1 := by bv_omega
    have busy : s.serialCount + 1#3 ≠ 0#3 := by bv_omega
    refine (inv_iff _).mpr ⟨portInv_of_resp_none rfl, ?_, resetInv_of_not_rst rfl⟩
    refine (serialInv_of_inProgress ((inProgress_iff _).mpr busy)).mpr ⟨hbuild, rfl, rfl, ?_⟩
    rw [count, feedBits_succ, hreg]

end

/-- Settles O56: out of reset, with nothing in progress and no response shown. -/
theorem invariantHoldsAtReset : Obligations.InvariantHoldsAtReset := by
  have quiet (s : State) (hresp : s.resp = none) (hp : s.inProgress = false)
      (hclear : s.serialByte = 0#8 ∧ s.serialReg = 0#8) (hrst : s.rst = false) : s.inv = true :=
    (inv_iff s).mpr ⟨portInv_of_resp_none hresp, (serialInv_of_not_inProgress hp).mpr hclear, resetInv_of_not_rst hrst⟩
  exact fun b => ⟨quiet (State.resetOf b) rfl rfl ⟨rfl, rfl⟩ rfl, quiet (State.powerUp b) rfl rfl ⟨rfl, rfl⟩ rfl⟩

/-- Settles O57: of all that a step can do, only reset and a byte touch the hidden state; every response is legal. -/
theorem everyStepKeepsTheInvariant : Obligations.EveryStepKeepsTheInvariant := by
  intro s t hs h
  cases stepTo_of_step h
  case reset => exact inv_takeReset _
  case advance rest hp hin => exact inv_advanceByte (s := { s with inbox := rest }) hs hp
  case start w b rest hp hin hserial hbyte => exact inv_startByte b hserial rfl rfl
  case request w rest r hp hin hcrc hlegal =>
    exact inv_of_no_byte hs hp rfl rfl rfl rfl (portInv_of_legal rfl hlegal hcrc)
  -- no request: the response port is empty
  all_goals exact inv_of_no_byte hs ‹s.inProgress = false› rfl rfl rfl rfl (portInv_of_resp_none rfl)

/-- Settles O48: with no byte in progress the output is the register, which reset holds at 0xFF. -/
theorem crcOutShowsTheRegister : Obligations.CrcOutShowsTheRegister := by
  refine ⟨fun s hp => crcOut_of_not_inProgress hp, fun s hs hrst => ?_⟩
  obtain ⟨-, -, hreset⟩ := (inv_iff s).mp hs
  obtain ⟨hcrc, hp, -⟩ := (resetInv_of_rst hrst).mp hreset
  exact (crcOut_of_not_inProgress hp).trans hcrc

end Sys2Proof.Machine
end

section
/-! PROOFS. The SERIAL CRC.BYTE, cycle by cycle (10_state R27, R30; 70_reset_and_hazards R117). -/

namespace Sys2Proof.Machine

/-! ### Runs -/

theorem run_zero (s : State) : Host.Core.run core 0 s = .next s := rfl

/-- A run can be made one step longer at its end. -/
theorem run_succ_of_run {k : Nat} {s t u : State} (hrun : Host.Core.run core k s = .next t) (hstep : step t = .next u) :
    Host.Core.run core (k + 1) s = .next u := by
  induction k generalizing s with
  | zero =>
    cases hrun
    exact (run_succ_of_next hstep 0).trans (run_zero u)
  | succ k ih =>
    obtain ⟨v, hv, -⟩ := stepTo_step s
    rw [run_succ_of_next hv] at hrun ⊢
    exact ih hrun

/-! ### A held request (10_state R30) -/

theorem step_held_request {s : State} {w : Request} {rest : List Event} (hp : s.inProgress = true)
    (hin : s.inbox = .request w :: rest) : step s = .next (advanceByte s) := by
  refine step_held hp fun e later h => ?_
  cases hin.symm.trans h
  simp

/-- The eighth bit completes the byte. -/
theorem advanceByte_of_last {s : State} (h : s.serialCount = 7#3) :
    advanceByte s = { afterCrcWrite (crc8Bit s.serialReg (bitMsbFirst s.serialByte 7)) s with
      serialCount := 0#3, serialByte := 0#8, serialReg := 0#8, rst := false } := by
  simp [advanceByte, h, afterCrcWrite]

/-- A bit before the eighth is counted, and nothing is shown. -/
theorem advanceByte_of_more {s : State} (h : s.serialCount ≠ 7#3) :
    advanceByte s = { s with
      serialCount := s.serialCount + 1#3
      serialReg := crc8Bit s.serialReg (bitMsbFirst s.serialByte s.serialCount.toNat)
      rst := false
      resp := none
      draws := s.draws + 1 } := by
  simp [advanceByte, h]

/-- Behind a byte with `n + 1` bits to feed, a request waits `n + 1` steps. -/
theorem run_held_request (n : Nat) {s : State} {w : Request} {rest : List Event} (hp : s.inProgress = true)
    (hcount : s.serialCount.toNat + n = 7) (hin : s.inbox = .request w :: rest) :
    ∃ t : State, Host.Core.run core (n + 1) s = .next t ∧ t.inProgress = false ∧ t.inbox = .request w :: rest ∧
      t.respValid = true ∧ t.reqReady = true := by
  induction n generalizing s with
  | zero =>
    have hlast := advanceByte_of_last (BitVec.eq_of_toNat_eq hcount)
    refine ⟨_, (run_succ_of_next (step_held_request hp hin) 0).trans (run_zero _), ?_⟩
    rw [hlast]
    exact ⟨rfl, hin, rfl, (reqReady_iff _).mpr ⟨rfl, rfl⟩⟩
  | succ n ih =>
    have hmore := advanceByte_of_more (s := s) (by bv_omega)
    have next_count : (s.serialCount + 1#3).toNat = s.serialCount.toNat + 1 := by bv_omega
    rw [run_succ_of_next (step_held_request hp hin), hmore]
    refine ih ((inProgress_iff _).mpr ?_) ?_ hin
    · show s.serialCount + 1#3 ≠ 0#3
      bv_omega
    · show (s.serialCount + 1#3).toNat + n = 7
      omega

/-- Settles O47: the byte has at most seven bits left. -/
theorem heldRequestIsReleasedByTheBlock : Obligations.HeldRequestIsReleasedByTheBlock := by
  intro s w later hp hin
  have hne := (inProgress_iff s).mp hp
  obtain ⟨n, hn⟩ : ∃ n, s.serialCount.toNat + n = 7 := ⟨7 - s.serialCount.toNat, by bv_omega⟩
  obtain ⟨t, hrun, ht⟩ := run_held_request n hp hn hin
  exact ⟨n + 1, t, by bv_omega, hrun, ht⟩

/-! ### A SERIAL CRC.BYTE at eight edges (10_state R27; 70_reset_and_hazards R117) -/

/-- The state after the accepting edge and `k` bits of `b` in all, with these events to come. -/
def folding (b : Byte) (k : Nat) (rest : List Event) (s : State) : State :=
  { s with
    serialCount := BitVec.ofNat 3 k, serialByte := b, serialReg := feedBits s.crc b k, rst := false, resp := none,
    inbox := rest, draws := s.draws + k }

section
variable {s : State} {b : Byte} {rest : List Event}

theorem folding_inProgress {k : Nat} (hk : 1 ≤ k ∧ k ≤ 7) : (folding b k rest s).inProgress = true := by
  rw [inProgress_iff]
  show BitVec.ofNat 3 k ≠ 0#3
  bv_omega

/-- The accepting edge feeds the first bit. -/
theorem step_accept_byte {w : Request} (hserial : s.build.crcImpl = .serial) (hp : s.inProgress = false)
    (hw : decodeRequest w = .crcByte b) (hin : s.inbox = .clock ⟨false, true, w⟩ :: rest) :
    step s = .next (folding b 1 rest s) := by
  have haccept : acceptAtEdge w (accept rest s) = .next (startByte b (accept rest s)) := by
    simp [acceptAtEdge, hserial, hw]
  rw [step_clock hin, clockEdge_accepting rfl rfl hp]
  exact haccept

theorem step_folding {k : Nat} {p : Pins} (hk : 1 ≤ k ∧ k ≤ 7) (hrst : p.rst = false) :
    step (folding b k (.clock p :: rest) s) = .next (advanceByte (folding b k rest s)) := by
  have hp : (folding b k (.clock p :: rest) s).inProgress = true := folding_inProgress hk
  rw [step_clock (s := folding b k (.clock p :: rest) s) rfl, clockEdge_busy hrst hp]
  rfl

/-- An edge before the eighth feeds one more bit. -/
theorem advanceByte_folding {k : Nat} (hk : 1 ≤ k ∧ k < 7) :
    advanceByte (folding b k rest s) = folding b (k + 1) rest s := by
  have toNat_count : (BitVec.ofNat 3 k).toNat = k := by bv_omega
  have more : (folding b k rest s).serialCount ≠ 7#3 := by
    show BitVec.ofNat 3 k ≠ 7#3
    bv_omega
  rw [advanceByte_of_more more]
  simp [folding, feedBits_succ, toNat_count, BitVec.ofNat_add, Nat.add_assoc]

/-- The eighth edge feeds the last bit and answers as the atomic CRC.BYTE does (10_state R27). -/
theorem advanceByte_folding_seven (hbyte : s.serialByte = 0#8) (hreg : s.serialReg = 0#8) (hp : s.inProgress = false) :
    advanceByte (folding b 7 rest s) =
      { afterCrcWrite (crc8Step s.crc b) (accept rest s) with draws := s.draws + 7 } := by
  have hcount : s.serialCount = 0#3 := (inProgress_eq_false_iff s).mp hp
  have lastBit : crc8Bit (feedBits s.crc b 7) (bitMsbFirst b 7) = crc8Step s.crc b := feedBits_eight s.crc b
  rw [advanceByte_of_last rfl]
  simp [folding, afterCrcWrite, accept, lastBit, hbyte, hreg, hcount]

/-- After the accepting edge and `j` more, `j + 1` bits are fed. -/
theorem run_folding {ps : List Pins} {later : List Event} (hlen : ps.length = 7) (hrst : ∀ p ∈ ps, p.rst = false)
    (haccept : step s = .next (folding b 1 (ps.map Event.clock ++ later) s)) {j : Nat} (hj : j ≤ 6) :
    Host.Core.run core (j + 1) s = .next (folding b (j + 1) ((ps.drop j).map Event.clock ++ later) s) := by
  induction j with
  | zero => exact (run_succ_of_next haccept 0).trans (run_zero _)
  | succ j ih =>
    have edge := step_folding (s := s) (b := b) (k := j + 1) (rest := (ps.drop (j + 1)).map Event.clock ++ later)
      (by omega) (hrst ps[j] (List.getElem_mem _))
    rw [advanceByte_folding (by omega)] at edge
    have hrun := ih (by omega)
    rw [List.drop_eq_getElem_cons (by omega)] at hrun
    exact run_succ_of_run hrun edge

end

/-- Settles O45: seven edges fold seven bits unseen, and the eighth ends as the atomic step. -/
theorem serialByteRefinesAtomicByte : Obligations.SerialByteRefinesAtomicByte := by
  intro s w b ps later hserial hp hbyte hreg hw hlen hrst hin
  have hrun {j : Nat} (hj : j ≤ 6) := run_folding hlen hrst (step_accept_byte hserial hp hw hin) hj
  constructor
  · intro k hk hk'
    obtain ⟨j, rfl⟩ : ∃ j, k = j + 1 := ⟨k - 1, by omega⟩
    refine ⟨_, hrun (by omega), ?_, rfl, rfl⟩
    simp [State.reqReady, folding_inProgress ⟨hk, hk'⟩]
  · have seventh := hrun (j := 6) (by omega)
    rw [List.drop_eq_getElem_cons (by omega), List.drop_eq_nil_of_le (by omega)] at seventh
    have eighth := step_folding (s := s) (b := b) (k := 7) (rest := later) (by omega) (hrst ps[6] (List.getElem_mem _))
    rw [advanceByte_folding_seven hbyte hreg hp] at eighth
    exact ⟨_, _, run_succ_of_run seventh eighth, exec_crcByte b _, rfl, (reqReady_iff _).mpr ⟨rfl, hp⟩⟩

end Sys2Proof.Machine
end

section
/-! PROOFS. The bus and the host: the recovery of an interrupted transaction (70_reset_and_hazards R123) and the host's
routines (R121, R122, R124). -/

namespace Sys2Proof.Machine

/-! ### Recovery from an interrupted transaction (70_reset_and_hazards R123) -/

/-- `s` after bus events: what is still to come, the command under way, and whether the handle is untrusted. -/
def onBus (rest : List Event) (slot : Option Selector) (untrusted : Bool) (s : State) : State :=
  { accept rest s with slot := slot, untrusted := untrusted }

section
variable {s : State} {rest : List Event} {slot : Option Selector} {c : Selector}

theorem step_abandon_onBus (hp : s.inProgress = false) (hslot : s.slot = some c) (hin : s.inbox = .abandon :: rest) :
    step s = .next (onBus rest (some c) true s) := by
  rw [step_abandon hin hp, abandonTransaction_eq]
  simp [onBus, accept, hslot]

theorem step_onBus_command {k : Word16} {u : Bool} (hp : s.inProgress = false)
    (hk : ∀ t, runFetched (.command k) t = openTransaction c t) :
    step (onBus (.command k :: rest) slot u s) = .next (onBus rest (some c) (u || slot.isSome) s) := by
  rw [step_command (s := onBus (.command k :: rest) slot u s) rfl hp, hk, openTransaction_eq]
  rfl

theorem step_onBus_finish {ms : Nat} {u : Bool} (hp : s.inProgress = false) (hms : (rom c).delayMs ≤ ms) :
    step (onBus (.finish ms :: rest) (some c) u s) = .next (onBus rest none u s) := by
  rw [step_finish (s := onBus (.finish ms :: rest) (some c) u s) rfl hp, endTransaction_of_delay_le rfl hms]
  rfl

theorem step_onBus_constructed {u : Bool} (hp : s.inProgress = false) :
    step (onBus (.constructed :: rest) none u s) = .next (onBus rest none false s) := by
  rw [step_constructed (s := onBus (.constructed :: rest) none u s) rfl hp, renewHandle_eq]
  simp [onBus, accept]

end

/-- Settles O58: the eight events, one step each; the handle stays untrusted until the last. -/
theorem interruptedTransactionIsRecoveredByConstruction :
    Obligations.InterruptedTransactionIsRecoveredByConstruction := by
  intro s c m1 m2 m3 later hp hslot h1 h2 h3 hin
  have run1 := (run_succ_of_next (step_abandon_onBus hp hslot hin) 0).trans (run_zero _)
  have run2 := run_succ_of_run run1 (step_onBus_command (c := .getSerialId) hp fun _ => rfl)
  have run3 := run_succ_of_run run2 (step_onBus_finish hp h1)
  have run4 := run_succ_of_run run3 (step_onBus_command (c := .getFeatureset) hp fun _ => rfl)
  have run5 := run_succ_of_run run4 (step_onBus_finish hp h2)
  have run6 := run_succ_of_run run5 (step_onBus_command (c := .iaqInit) hp fun _ => rfl)
  have run7 := run_succ_of_run run6 (step_onBus_finish hp h3)
  have run8 := run_succ_of_run run7 (step_onBus_constructed hp)
  refine ⟨⟨_, run1, rfl, rfl⟩, fun k hk hk' => ?_, run8⟩
  interval_cases k
  exacts [⟨_, run1, rfl, rfl⟩, ⟨_, run2, rfl, rfl⟩, ⟨_, run3, rfl, rfl⟩, ⟨_, run4, rfl, rfl⟩, ⟨_, run5, rfl, rfl⟩,
    ⟨_, run6, rfl, rfl⟩, ⟨_, run7, rfl, rfl⟩]

/-! ### The host's transaction (70_reset_and_hazards R121, R124) -/

theorem validBytes_of_bytes {r : Response} {bs : List Byte} (hlen : r.len = BitVec.ofNat 4 bs.length)
    (hpayload : r.payload = packLeft bs) (hnine : bs.length ≤ 9) : validBytes r = bs := by
  rw [validBytes, hlen, hpayload, BitVec.toNat_ofNat, Nat.mod_eq_of_lt (by omega)]
  exact takeBytes_packLeft rfl hnine

theorem wordsOf_flatMap_wordBytes (ws : List Word16) : wordsOf (ws.flatMap wordBytes) = ws := by
  induction ws with
  | nil => rfl
  | cons w ws ih =>
    have first : (w :: ws).flatMap wordBytes = hi w :: lo w :: ws.flatMap wordBytes := rfl
    rw [first, wordsOf, ih, word, hi_append_lo]

/-- The response to FR.ENC: the frame, and the command's row of the ROM (41_framer R81). -/
def commandResponse (c : Selector) (payload : List Word16) (s : State) : Response :=
  { bytesResponse (commandFrame (rom c).opcode payload) s.crc with
    rxw := BitVec.ofNat 2 (rom c).replyWords, delayMs := BitVec.ofNat 8 (rom c).delayMs, addr := s.build.devAddr }

theorem answerCommand_eq_complete (c : Selector) (payload : List Word16) (s : State) :
    answerCommand c payload s = complete (commandResponse c payload s) s := rfl

theorem rxw_commandResponse (c : Selector) (payload : List Word16) (s : State) :
    (commandResponse c payload s).rxw.toNat = (rom c).replyWords := by
  cases c <;> rfl

theorem delayMs_commandResponse (c : Selector) (payload : List Word16) (s : State) :
    (commandResponse c payload s).delayMs.toNat = (rom c).delayMs := by
  cases c <;> rfl

theorem validBytes_commandResponse (c : Selector) {payload : List Word16} (h : payload.length ≤ 2) (s : State) :
    validBytes (commandResponse c payload s) = commandFrame (rom c).opcode payload := by
  refine validBytes_of_bytes rfl rfl ?_
  rw [length_commandFrame]
  omega

section
variable {c : Selector} {co2 tvoc : Word16} {s : State}

/-- A command that FR.ENC frames is written and waited for (R121 steps 1 to 4). -/
theorem runCommand_of_framed {payload : List Word16} (hpayload : payload.length ≤ 2)
    (h : exec (encInstr c co2 tvoc) s = answerCommand c payload s) (reply : ReadAnswer) :
    runCommand c co2 tvoc ⟨true, reply⟩ s =
      finishCommand c (rom c).replyWords s.build.devAddr ⟨true, reply⟩
        [.write s.build.devAddr (commandFrame (rom c).opcode payload), .sleep (rom c).delayMs]
        { s with resp := some (commandResponse c payload s) } := by
  have hissue := issue_of_complete (h.trans (answerCommand_eq_complete c payload s))
  have hok : (commandResponse c payload s).status = .ok := rfl
  simp only [runCommand, hissue, hok, if_true, rxw_commandResponse, delayMs_commandResponse,
    validBytes_commandResponse c hpayload]
  rfl

theorem ne_setIaqBaseline_of_reply (h : (rom c).replyWords ≠ 0) : c ≠ .setIaqBaseline := by
  rintro rfl
  exact h rfl

/-- What the host has written and waited for before it reads, for a command without payload. -/
def writtenCommand (c : Selector) (s : State) : List BusAction :=
  [.write s.build.devAddr [hi (rom c).opcode, lo (rom c).opcode], .sleep (rom c).delayMs]

/-- A command with a reply has no payload, and gets to its read (R121 step 5). -/
theorem runCommand_of_reply (hreply : (rom c).replyWords ≠ 0) (reply : ReadAnswer) :
    runCommand c co2 tvoc ⟨true, reply⟩ s =
      finishCommand c (rom c).replyWords s.build.devAddr ⟨true, reply⟩ (writtenCommand c s)
        { s with resp := some (commandResponse c [] s) } :=
  runCommand_of_framed (Nat.zero_le _) (exec_encInstr (ne_setIaqBaseline_of_reply hreply) co2 tvoc s) reply

/-- A read that never returns is never left (R124). -/
theorem runCommand_never (hreply : (rom c).replyWords ≠ 0) :
    runCommand c co2 tvoc ⟨true, .never⟩ s =
      some ⟨.hang, writtenCommand c s ++ [.read s.build.devAddr (3 * (rom c).replyWords)],
        { s with resp := some (commandResponse c [] s) }⟩ := by
  rw [runCommand_of_reply hreply, finishCommand, if_neg hreply]

/-- A reply of the triples of the words gives the words (R121 steps 5 to 7). -/
theorem finishCommand_words {ws : List Word16} (hreply : (rom c).replyWords ≠ 0)
    (hlen : ws.length = (rom c).replyWords) (addr : BitVec 7) (bus : List BusAction) :
    finishCommand c (rom c).replyWords addr ⟨true, .bytes (ws.flatMap encWord)⟩ bus s =
      some ⟨.ok ws, bus ++ [.read addr (3 * ws.length)],
        { s with resp := some (bytesResponse (ws.flatMap wordBytes) s.crc) }⟩ := by
  have hdec : exec (decInstr c (ws.flatMap encWord)) s = complete (bytesResponse (ws.flatMap wordBytes) s.crc) s :=
    (exec_decInstr c _ s).trans (answerReply_flatMap_encWord hlen s)
  have hok : (bytesResponse (ws.flatMap wordBytes) s.crc).status = .ok := rfl
  have hbytes : (ws.flatMap wordBytes).length ≤ 9 := by
    have := replyWords_le_three c
    rw [length_flatMap_wordBytes]
    omega
  have hwords : wordsOf (validBytes (bytesResponse (ws.flatMap wordBytes) s.crc)) = ws := by
    rw [validBytes_of_bytes rfl rfl hbytes, wordsOf_flatMap_wordBytes]
  have hread : (ws.flatMap encWord).length = 3 * (rom c).replyWords := by rw [length_flatMap_encWord, hlen]
  simp only [finishCommand, hreply, hread, issue_of_complete hdec, hok, hwords, hlen, if_true, if_false,
    Option.map_some]

/-- The whole transaction of a command with a reply, and the state it leaves the block in. -/
theorem runCommand_words {ws : List Word16} (hreply : (rom c).replyWords ≠ 0) (hlen : ws.length = (rom c).replyWords) :
    runCommand c co2 tvoc ⟨true, .bytes (ws.flatMap encWord)⟩ s =
      some ⟨.ok ws, writtenCommand c s ++ [.read s.build.devAddr (3 * ws.length)],
        { s with resp := some (bytesResponse (ws.flatMap wordBytes) s.crc) }⟩ :=
  (runCommand_of_reply hreply _).trans (finishCommand_words hreply hlen _ _)

/-- A command without reply words reads nothing (R121 step 5). -/
theorem runCommand_no_reply (hreply : (rom c).replyWords = 0) (hpair : ¬(co2 = 0#16 ∧ tvoc = 0#16))
    (reply : ReadAnswer) :
    ∃ m, runCommand c co2 tvoc ⟨true, reply⟩ s = some m ∧ m.result = .ok [] := by
  obtain ⟨payload, hpayload, hexec⟩ :
      ∃ payload : List Word16, payload.length ≤ 2 ∧ exec (encInstr c co2 tvoc) s = answerCommand c payload s := by
    by_cases hc : c = .setIaqBaseline
    · subst hc
      exact ⟨[tvoc, co2], Nat.le_refl 2, exec_frEncSetIaqBaseline_of_ne_zero hpair s⟩
    · exact ⟨[], Nat.zero_le 2, exec_encInstr hc co2 tvoc s⟩
  rw [runCommand_of_framed hpayload hexec, hreply]
  exact ⟨_, rfl, rfl⟩

end

/-- Settles O54: the frame of the command is its opcode, and the words of a good reply come back. -/
theorem runCommandReturnsTheReplyWords : Obligations.RunCommandReturnsTheReplyWords := by
  rintro c s ws x hreply hlen rfl
  exact ⟨_, runCommand_words hreply hlen, rfl, rfl, rfl⟩

/-! ### Construction (70_reset_and_hazards R122, R124) -/

theorem construct_of_hang {x1 : Transport} {s : State} {bus : List BusAction} {t : State}
    (h : runCommand .getSerialId 0#16 0#16 x1 s = some ⟨.hang, bus, t⟩) (x2 x3 : Transport) :
    construct x1 x2 x3 s = some ⟨.hang, bus, t⟩ := by
  rw [construct, h]

/-- Settles O59: the read is reached in the transaction and, as the first one, in the construction. -/
theorem readThatNeverReturnsHangsTheHost : Obligations.ReadThatNeverReturnsHangsTheHost := by
  refine ⟨fun c co2 tvoc s hreply => ?_, fun x2 x3 s => ?_, fun c co2 tvoc s hreply hpair => ?_⟩
  · exact ⟨_, runCommand_never hreply, rfl, rfl, rfl⟩
  · exact ⟨_, construct_of_hang (runCommand_never (c := .getSerialId) (by decide)) x2 x3, rfl, rfl, rfl⟩
  · exact runCommand_no_reply hreply hpair .never

section
variable {x : Transport} {s t : State} {bus : List BusAction}

theorem construct_of_words {ws : List Word16} (h : runCommand .getSerialId 0#16 0#16 x s = some ⟨.ok ws, bus, t⟩)
    (x2 x3 : Transport) : construct x x2 x3 s = identify (serialOf ws) x2 x3 bus t := by
  rw [construct, h]

theorem identify_of_word {w : Word16} (h : runCommand .getFeatureset 0#16 0#16 x s = some ⟨.ok [w], bus, t⟩)
    (serial : BitVec 48) (x3 : Transport) (before : List BusAction) :
    identify serial x x3 before s = checkFeatureset w serial x3 (before ++ bus) t := by
  rw [identify, h]

/-- The identity check ends the construction on a wrong word (41_framer R86). -/
theorem checkFeatureset_of_ne {w : Word16} (hw : w ≠ featuresetExpected) (serial : BitVec 48) :
    checkFeatureset w serial x bus s =
      some ⟨.error .deviceNotDetected, bus, { s with resp := some (bareResponse .deviceNotDetected s.crc) }⟩ := by
  rw [checkFeatureset, issue_of_complete (exec_frChkfs_of_ne hw s)]
  rfl

end

/-- Settles O55: construction ends at the identity check, after the writes of GET_SERIAL_ID and GET_FEATURESET alone. -/
theorem wrongIdentityStopsConstruction : Obligations.WrongIdentityStopsConstruction := by
  intro w0 w1 w2 w x3 s hw
  have serialRead := construct_of_words (s := s)
    (runCommand_words (c := .getSerialId) (ws := [w0, w1, w2]) (by decide) rfl) ⟨true, .bytes (encWord w)⟩ x3
  have wordRead (t : State) := identify_of_word (s := t)
    (runCommand_words (c := .getFeatureset) (ws := [w]) (by decide) rfl) (serialOf [w0, w1, w2]) x3
  refine ⟨_, (serialRead.trans (wordRead _ _)).trans (checkFeatureset_of_ne hw _), rfl, fun a bytes hmem => ?_⟩
  obtain ⟨-, rfl⟩ | ⟨-, rfl⟩ :
      (a = s.build.devAddr ∧ bytes = [hi (rom .getSerialId).opcode, lo (rom .getSerialId).opcode]) ∨
      (a = s.build.devAddr ∧ bytes = [hi (rom .getFeatureset).opcode, lo (rom .getFeatureset).opcode]) := by
    simpa [writtenCommand] using hmem
  all_goals decide

end Sys2Proof.Machine
end
